-- ==== Sys2Proof/Word.lean ====
section
/-! DEFINITION. The words of the block and the two index types every per-source and per-actuator object uses
(spec 00_scope.md R7, R8, R9, R12, R13). -/

namespace Sys2Proof

/-- A byte: raw signal registers, frame bytes, `frame_len`, the command word. -/
abbrev Byte := BitVec 8

/-- The width of a record field (30_encoding.md R81). -/
abbrev Half := BitVec 16

/-- The width of a CAN identifier and of `rsp.value` (30_encoding.md R66, R69). -/
abbrev Word := BitVec 32

/-- The little-endian 64-bit view of the 8 frame data bytes (20_memory.md R52). -/
abbrev FrameData := BitVec 64

/-- A time in milliseconds. The width `W` is a configuration parameter (00_scope.md R5), so a time is a number that
every reader reduces modulo `2^W` and every writer stores reduced (assumption log 2). -/
abbrev Time := Nat

/-- The four monitored messages, numbered 0 to 3 (00_scope.md R12). -/
inductive Source where
  | lamp
  | lock
  | park
  | batt
deriving DecidableEq, Repr

/-- The number of a source, as `rsp.src` carries it (00_scope.md R12, 30_encoding.md R69). -/
def Source.num : Source → BitVec 2
  | .lamp => 0
  | .lock => 1
  | .park => 2
  | .batt => 3

/-- The four actuators, numbered 0 to 3 (00_scope.md R13). -/
inductive Actuator where
  | lamp
  | toolbox
  | parkedInd
  | unlockedInd
deriving DecidableEq, Repr

/-- The number of an actuator (00_scope.md R13). -/
def Actuator.num : Actuator → Nat
  | .lamp => 0
  | .toolbox => 1
  | .parkedInd => 2
  | .unlockedInd => 3

/-- One value per source: a register array indexed `[s]`. -/
structure PerSource (α : Type) where
  lamp : α
  lock : α
  park : α
  batt : α
deriving DecidableEq, Repr

/-- `v[s]`. -/
def PerSource.get {α : Type} (v : PerSource α) : Source → α
  | .lamp => v.lamp
  | .lock => v.lock
  | .park => v.park
  | .batt => v.batt

/-- `v` with `v[s] <- x`. -/
def PerSource.set {α : Type} (v : PerSource α) (s : Source) (x : α) : PerSource α :=
  match s with
  | .lamp => { v with lamp := x }
  | .lock => { v with lock := x }
  | .park => { v with park := x }
  | .batt => { v with batt := x }

/-- The same value for all four sources. -/
def PerSource.fill {α : Type} (x : α) : PerSource α := ⟨x, x, x, x⟩

/-- One value per actuator: a register array indexed `[a]`. -/
structure PerActuator (α : Type) where
  lamp : α
  toolbox : α
  parkedInd : α
  unlockedInd : α
deriving DecidableEq, Repr

/-- `v[a]`. -/
def PerActuator.get {α : Type} (v : PerActuator α) : Actuator → α
  | .lamp => v.lamp
  | .toolbox => v.toolbox
  | .parkedInd => v.parkedInd
  | .unlockedInd => v.unlockedInd

/-- `v` with `v[a] <- x`. -/
def PerActuator.set {α : Type} (v : PerActuator α) (a : Actuator) (x : α) : PerActuator α :=
  match a with
  | .lamp => { v with lamp := x }
  | .toolbox => { v with toolbox := x }
  | .parkedInd => { v with parkedInd := x }
  | .unlockedInd => { v with unlockedInd := x }

/-- The same value for all four actuators. -/
def PerActuator.fill {α : Type} (x : α) : PerActuator α := ⟨x, x, x, x⟩

end Sys2Proof
end

