-- ==== Sys2Proof/Config.lean ====
section
/-! DEFINITION. The implementation parameters of the block (spec 00_scope.md R5) and their defaults. A configuration is
fixed when the block is built; which configurations are legal is in WellFormed.lean (R6, R84). -/

namespace Sys2Proof

/-- `READY_POLICY` (00_scope.md R5, 42_aggregator.md R139). -/
inductive ReadyPolicy where
  | any
  | all
deriving DecidableEq, Repr

/-- The place of one signal in the frame: its DBC start bit (the most significant bit) and its length
(20_memory.md R53, 30_encoding.md R84). -/
structure SigPos where
  start : Nat
  len : Nat
deriving DecidableEq, Repr

/-- The parameters of 00_scope.md R5, each a field. -/
structure Config where
  /-- `W`: width in bits of the time base. -/
  W : Nat
  /-- `DEBOUNCE_MS`. -/
  debounceMs : Nat
  /-- `DOUBLE_CLICK_MS`. -/
  doubleClickMs : Nat
  /-- `HOLD_MS`. -/
  holdMs : Nat
  /-- `TOOLBOX_MS`. -/
  toolboxMs : Nat
  /-- `READY_POLICY`. -/
  readyPolicy : ReadyPolicy
  /-- `READY_TIMEOUT_MS[s]`. -/
  readyTimeoutMs : PerSource Nat
  /-- `ID_LAMP`, `ID_LOCK`, `ID_PARK`, `ID_BATT`: 32-bit identifiers. -/
  id : PerSource Word
  /-- Puddle-lamp request: `SB_PUDLAMP` and its length. -/
  sigPudLamp : SigPos
  /-- Illuminated-entry status: `SB_ILLUM` and its length. -/
  sigIllum : SigPos
  /-- Driver courtesy-light status: `SB_COURTESY` and its length. -/
  sigCourtesy : SigPos
  /-- Lock status: `SB_LOCK` and its length. -/
  sigLock : SigPos
  /-- Transmission-park status: `SB_PARK` and its length. -/
  sigPark : SigPos
  /-- Battery state of charge: `SB_BATT` and `BATT_LEN`. -/
  sigBatt : SigPos
  /-- The enumeration codes of 30_encoding.md R86, each the 8 bits of a raw register (assumption log 8). -/
  codeOff : Byte
  codeOn : Byte
  codeRampUp : Byte
  codeRampDown : Byte
  codeLockDbl : Byte
  codeLockAll : Byte
  codeUnlockAll : Byte
  codeUnlockDrv : Byte
  codePark : Byte
  /-- The range limits of 30_encoding.md R87. -/
  maxLamp : Nat
  maxIllum : Nat
  maxCourtesy : Nat
  maxLock : Nat
  maxPark : Nat
  battMax : Nat
  /-- `SENTINEL`. -/
  sentinel : Nat
  /-- `PRESS_COUNT_W`. -/
  pressCountW : Nat
  /-- `MAX_FRAMES_PER_TICK`: host policy (70_reset_and_hazards.md R228). -/
  maxFramesPerTick : Nat
  /-- `OUTPUT_PERIOD_MS`: host policy (70_reset_and_hazards.md R228). -/
  outputPeriodMs : Nat
deriving DecidableEq, Repr

/-- The default configuration: the "value" column of 00_scope.md R5 and the tables of 30_encoding.md R83, R84, R86
and R87. -/
def Config.default : Config where
  W := 32
  debounceMs := 50
  doubleClickMs := 300
  holdMs := 1000
  toolboxMs := 500
  readyPolicy := .any
  readyTimeoutMs := PerSource.fill 600000
  id := ⟨0x3C3, 0x331, 0x176, 0x43C⟩
  sigPudLamp := ⟨11, 2⟩
  sigIllum := ⟨63, 2⟩
  sigCourtesy := ⟨49, 2⟩
  sigLock := ⟨34, 2⟩
  sigPark := ⟨31, 4⟩
  sigBatt := ⟨22, 7⟩
  codeOff := 0
  codeOn := 1
  codeRampUp := 2
  codeRampDown := 3
  codeLockDbl := 0
  codeLockAll := 1
  codeUnlockAll := 2
  codeUnlockDrv := 3
  codePark := 1
  maxLamp := 3
  maxIllum := 3
  maxCourtesy := 3
  maxLock := 3
  maxPark := 15
  battMax := 127
  sentinel := 0xFF
  pressCountW := 32
  maxFramesPerTick := 10
  outputPeriodMs := 100

end Sys2Proof
end

