-- ==== Sys2Proof/Syntax.lean ====
section
/-! DEFINITION. The commands of the block: one constructor per row of the opcode map (spec 30_encoding.md R73). No
command has an operand in its word (R71, R78), so no constructor has an argument. -/

namespace Sys2Proof

/-- The 25 commands of 30_encoding.md R73, in the order of their opcodes. -/
inductive Instr where
  | extract
  | set
  | init
  | decodeLamp
  | decodeLock
  | decodePark
  | decodeBatt
  | updateLamp
  | updateLock
  | updatePark
  | updateBatt
  | frameIn
  | recomputeReady
  | touchFreshness
  | snapshot
  | buttonPoll
  | readPressed
  | readReleased
  | readDouble
  | buttonStatus
  | outputTick
  | toolboxEval
  | toolboxTimer
  | mayActivate
  | safeShutdown
deriving DecidableEq, Repr

/-- The mnemonic of a command, as the assembler writes it (30_encoding.md R73, R89). -/
def Instr.mnemonic : Instr → String
  | .extract => "EXTRACT"
  | .set => "SET"
  | .init => "INIT"
  | .decodeLamp => "DECODE_LAMP"
  | .decodeLock => "DECODE_LOCK"
  | .decodePark => "DECODE_PARK"
  | .decodeBatt => "DECODE_BATT"
  | .updateLamp => "UPDATE_LAMP"
  | .updateLock => "UPDATE_LOCK"
  | .updatePark => "UPDATE_PARK"
  | .updateBatt => "UPDATE_BATT"
  | .frameIn => "FRAME_IN"
  | .recomputeReady => "RECOMPUTE_READY"
  | .touchFreshness => "TOUCH_FRESHNESS"
  | .snapshot => "SNAPSHOT"
  | .buttonPoll => "BUTTON_POLL"
  | .readPressed => "READ_PRESSED"
  | .readReleased => "READ_RELEASED"
  | .readDouble => "READ_DOUBLE"
  | .buttonStatus => "BUTTON_STATUS"
  | .outputTick => "OUTPUT_TICK"
  | .toolboxEval => "TOOLBOX_EVAL"
  | .toolboxTimer => "TOOLBOX_TIMER"
  | .mayActivate => "MAY_ACTIVATE"
  | .safeShutdown => "SAFE_SHUTDOWN"

/-- The families of the opcode map (30_encoding.md R73, R74). The two button families of the map are one component. -/
inductive Family where
  | control
  | codec
  | decode
  | update
  | vehicleState
  | button
  | buttonStatus
  | output
  | shutdown
deriving DecidableEq, Repr

/-- The "family" column of 30_encoding.md R73. -/
def Instr.family : Instr → Family
  | .extract | .set => .codec
  | .init => .control
  | .decodeLamp | .decodeLock | .decodePark | .decodeBatt => .decode
  | .updateLamp | .updateLock | .updatePark | .updateBatt => .update
  | .frameIn | .recomputeReady | .touchFreshness | .snapshot => .vehicleState
  | .buttonPoll | .readPressed | .readReleased | .readDouble => .button
  | .buttonStatus => .buttonStatus
  | .outputTick | .toolboxEval | .toolboxTimer | .mayActivate => .output
  | .safeShutdown => .shutdown

end Sys2Proof
end

