-- ==== Sys2Proof/WellFormed.lean ====
section
/-! DEFINITION. What is well formed: a command (always, since no operand stands in its word; spec 30_encoding.md R78) and
a configuration (the clauses of 00_scope.md R6, one check each, with 30_encoding.md R84). -/

namespace Sys2Proof

/-- A command is well formed: R78 "No operand is assembled from command bits", so there is nothing to check. -/
def Instr.wellFormed : Instr → Bool
  | _ => true

/-- The codec precondition on a signal's place: 40_codec.md R100, and its clause in 00_scope.md R6. -/
def SigPos.wellFormed (p : SigPos) : Bool :=
  decide (1 ≤ p.len) && decide (p.len ≤ 16) && decide (p.start ≤ 63) && decide (p.len ≤ p.start + 1)

/-- R6, first clause: `W` ≥ 1. -/
def Config.widthOk (c : Config) : Bool := decide (1 ≤ c.W)

/-- R6, first clause: every time-valued parameter is below 2^W. -/
def Config.timesFit (c : Config) : Bool :=
  decide (c.debounceMs < 2 ^ c.W) && decide (c.doubleClickMs < 2 ^ c.W) && decide (c.holdMs < 2 ^ c.W) &&
  decide (c.toolboxMs < 2 ^ c.W) &&
  decide (c.readyTimeoutMs.lamp < 2 ^ c.W) && decide (c.readyTimeoutMs.lock < 2 ^ c.W) &&
  decide (c.readyTimeoutMs.park < 2 ^ c.W) && decide (c.readyTimeoutMs.batt < 2 ^ c.W)

/-- R6, second clause: the four message identifiers are pairwise distinct. -/
def Config.idsDistinct (c : Config) : Bool :=
  decide (c.id.lamp ≠ c.id.lock) && decide (c.id.lamp ≠ c.id.park) && decide (c.id.lamp ≠ c.id.batt) &&
  decide (c.id.lock ≠ c.id.park) && decide (c.id.lock ≠ c.id.batt) && decide (c.id.park ≠ c.id.batt)

/-- R6, third clause: every signal meets the codec precondition. -/
def Config.signalsOk (c : Config) : Bool :=
  c.sigPudLamp.wellFormed && c.sigIllum.wellFormed && c.sigCourtesy.wellFormed &&
  c.sigLock.wellFormed && c.sigPark.wellFormed && c.sigBatt.wellFormed

/-- R6, third clause, with 30_encoding.md R84, which it cites: the battery length is 7 or 8, and "When a configuration sets
`BATT_LEN` = 8, it sets `SB_BATT` = 23". A configuration against R84 is refused as R6 refuses (DEDUCED, log 16). -/
def Config.battLenOk (c : Config) : Bool := c.sigBatt.len == 7 || (c.sigBatt.len == 8 && c.sigBatt.start == 23)

/-- R6, fourth clause: `SENTINEL` is greater than `MAX_LAMP`, `MAX_LOCK` and `BATT_MAX`, and at most 0xFF. -/
def Config.sentinelOk (c : Config) : Bool :=
  decide (c.maxLamp < c.sentinel) && decide (c.maxLock < c.sentinel) && decide (c.battMax < c.sentinel) &&
  decide (c.sentinel ≤ 0xFF)

/-- R6, fifth clause: `CODE_PARK` ≤ `MAX_PARK`. R6 puts no upper bound on `MAX_PARK`, though 30_encoding.md R81 reads R6 as
bounding every decoded `f0` to 8 bits; the model adds none (DESIGN CHOICE, log 15). -/
def Config.codeParkOk (c : Config) : Bool := decide (c.codePark.toNat ≤ c.maxPark)

/-- A configuration is legal: all clauses of 00_scope.md R6, with 30_encoding.md R84 for the battery field (log 16). "A model
refuses an illegal configuration; it does not give it a meaning": `step` refuses one. No clause bounds `MAX_PARK` from above
(DESIGN CHOICE, log 15), keeps `SENTINEL` off the enumeration codes (log 9), or ties the lock codes to `SB_LOCK`: 30_encoding.md
R88 says that a configuration that changes `SB_LOCK` must change the lock codes to match, R6 has no such clause, and the model
accepts any lock place with any codes (DESIGN CHOICE, log 17). -/
def Config.legal (c : Config) : Bool :=
  c.widthOk && c.timesFit && c.idsDistinct && c.signalsOk && c.battLenOk && c.sentinelOk && c.codeParkOk

end Sys2Proof
end

