-- ==== Sys2Proof/Decode.lean ====
section
/-! DEFINITION. The decoder of the command word, total on all 256 words and rejecting the rest by name, and the encoder
written from the same map (spec 30_encoding.md R71, R73, R75). -/

namespace Sys2Proof

/-- Why a command word is illegal (30_encoding.md R75). -/
inductive DecodeError where
  /-- `cmd[7:5]` ≠ 000. -/
  | reservedBits
  /-- `op` is one of 0x00, 0x15, 0x16, 0x17, 0x1D, 0x1E, 0x1F. -/
  | reservedOp
deriving DecidableEq, Repr

/-- `cmd[7:5]`, the field `rsv` (R71). -/
def rsvField (cmd : Byte) : BitVec 3 := cmd.extractLsb' 5 3

/-- `op` = `cmd[4:0]` (R71). -/
def opField (cmd : Byte) : BitVec 5 := cmd.extractLsb' 0 5

/-- `fam` = `cmd[4:2]` (R71). -/
def famField (cmd : Byte) : BitVec 3 := cmd.extractLsb' 2 3

/-- `mem` = `cmd[1:0]` (R71). -/
def memField (cmd : Byte) : BitVec 2 := cmd.extractLsb' 0 2

/-- The opcode map of R73, by opcode number; a reserved opcode is none. -/
def instrOfOp (op : Nat) : Option Instr :=
  match op with
  | 0x01 => some .extract
  | 0x02 => some .set
  | 0x03 => some .init
  | 0x04 => some .decodeLamp
  | 0x05 => some .decodeLock
  | 0x06 => some .decodePark
  | 0x07 => some .decodeBatt
  | 0x08 => some .updateLamp
  | 0x09 => some .updateLock
  | 0x0A => some .updatePark
  | 0x0B => some .updateBatt
  | 0x0C => some .frameIn
  | 0x0D => some .recomputeReady
  | 0x0E => some .touchFreshness
  | 0x0F => some .snapshot
  | 0x10 => some .buttonPoll
  | 0x11 => some .readPressed
  | 0x12 => some .readReleased
  | 0x13 => some .readDouble
  | 0x14 => some .buttonStatus
  | 0x18 => some .outputTick
  | 0x19 => some .toolboxEval
  | 0x1A => some .toolboxTimer
  | 0x1B => some .mayActivate
  | 0x1C => some .safeShutdown
  | _ => none

/-- The decoder: the reserved bits first, then the opcode (R75). No mode changes how a word decodes (R77). -/
def decode (cmd : Byte) : Except DecodeError Instr :=
  if rsvField cmd ≠ 0 then .error .reservedBits
  else
    match instrOfOp (opField cmd).toNat with
    | some i => .ok i
    | none => .error .reservedOp

/-- The two fields `fam` and `mem` of a command, from the opcode map's family layout (R71, R73, R74). -/
def famMem : Instr → BitVec 3 × BitVec 2
  | .extract => (0, 1)
  | .set => (0, 2)
  | .init => (0, 3)
  | .decodeLamp => (1, 0)
  | .decodeLock => (1, 1)
  | .decodePark => (1, 2)
  | .decodeBatt => (1, 3)
  | .updateLamp => (2, 0)
  | .updateLock => (2, 1)
  | .updatePark => (2, 2)
  | .updateBatt => (2, 3)
  | .frameIn => (3, 0)
  | .recomputeReady => (3, 1)
  | .touchFreshness => (3, 2)
  | .snapshot => (3, 3)
  | .buttonPoll => (4, 0)
  | .readPressed => (4, 1)
  | .readReleased => (4, 2)
  | .readDouble => (4, 3)
  | .buttonStatus => (5, 0)
  | .outputTick => (6, 0)
  | .toolboxEval => (6, 1)
  | .toolboxTimer => (6, 2)
  | .mayActivate => (6, 3)
  | .safeShutdown => (7, 0)

/-- The encoder: `cmd` = (000, fam, mem) (R71). -/
def encode (i : Instr) : Byte := (0#3 ++ (famMem i).1) ++ (famMem i).2

/-- What the decoder reads from a word of the opcode table: every command is one 8-bit word (R77). -/
def decodeTableWord (nbits w : Nat) : Option Instr :=
  if nbits = 8 ∧ w < 256 then
    match decode (BitVec.ofNat 8 w) with
    | .ok i => some i
    | .error _ => none
  else none

end Sys2Proof
end

