-- ==== Sys2Proof/Machine/Regs.lean ====
section
/-! DEFINITION. The register groups of the block (spec 10_state.md R20), the input ports (30_encoding.md R66), the signal
record (R72), the response (R69), the write events (R70) and what the host can present on the ports. -/

namespace Sys2Proof.Machine

open Sys2Proof

/-- The vehicle-state registers (10_state.md R21 to R28). -/
structure VehicleRegs where
  /-- `cur[s]`, R21. -/
  cur : PerSource Byte
  /-- `prev[s]`, R22. -/
  prev : PerSource Byte
  /-- `ts[s]`, R23: W bits each. -/
  ts : PerSource Time
  /-- `seen[s]`, R24. -/
  seen : PerSource Bool
  /-- R25. -/
  isUnlocked : Bool
  /-- R26. -/
  isParked : Bool
  /-- R27. -/
  lampShouldBeOn : Bool
  /-- R28. -/
  systemReady : Bool
deriving DecidableEq, Repr

/-- The button registers (10_state.md R30 to R42). -/
structure ButtonRegs where
  /-- R30. -/
  rawState : Bool
  /-- R31. -/
  debouncedState : Bool
  /-- R32. -/
  previousDebouncedState : Bool
  /-- R33, read-and-clear. -/
  pressedEdge : Bool
  /-- R34, read-and-clear. -/
  releasedEdge : Bool
  /-- R35, read-and-clear. -/
  doubleClickPending : Bool
  /-- R36. -/
  isHeld : Bool
  /-- R37: W bits. -/
  holdDurationMs : Time
  /-- R38: `PRESS_COUNT_W` bits. -/
  pressCount : Nat
  /-- R39: W bits. -/
  lastPressTime : Time
  /-- R40: W bits. -/
  lastChangeTime : Time
  /-- R41. -/
  hasPrevPress : Bool
  /-- R42. -/
  prevPressWasHold : Bool
deriving DecidableEq, Repr

/-- The output registers (10_state.md R43 to R45). -/
structure OutputRegs where
  /-- `lastApplied[a]`, R43. -/
  lastApplied : PerActuator Bool
  /-- R44. -/
  toolboxActive : Bool
  /-- R45: W bits. -/
  toolboxStart : Time
deriving DecidableEq, Repr

/-- The operand input ports (30_encoding.md R66). `now` and `rec_ts` are W bits wide: a reader takes them modulo 2^W. -/
structure InPorts where
  now : Time
  frameId : Word
  frameLen : Byte
  frameData : FrameData
  bfStart : Byte
  bfLen : Byte
  bfValue : Word
  recValid : Bool
  recF0 : Half
  recF1 : Half
  recF2 : Half
  recTs : Time
  btnPressed : Bool
  predIn : BitVec 3
deriving DecidableEq, Repr

/-- Every port 0: what a port a line does not set reads (30_encoding.md R89). -/
def InPorts.zero : InPorts where
  now := 0
  frameId := 0
  frameLen := 0
  frameData := 0
  bfStart := 0
  bfLen := 0
  bfValue := 0
  recValid := false
  recF0 := 0
  recF1 := 0
  recF2 := 0
  recTs := 0
  btnPressed := false
  predIn := 0

/-- A signal record (30_encoding.md R72); the name `Record` of the spec's `rec`. -/
structure Record where
  valid : Bool
  f0 : Half
  f1 : Half
  f2 : Half
  ts : Time
deriving DecidableEq, Repr

/-- The record bundle of a response no rule writes (30_encoding.md R69). -/
def Record.zero : Record := ⟨false, 0, 0, 0, 0⟩

/-- What `BUTTON_STATUS` returns (43_button.md R159): every button register but the three edge flags. -/
structure ButtonSnap where
  rawState : Bool
  debouncedState : Bool
  previousDebouncedState : Bool
  isHeld : Bool
  holdDurationMs : Time
  pressCount : Nat
  lastPressTime : Time
  lastChangeTime : Time
  hasPrevPress : Bool
  prevPressWasHold : Bool
deriving DecidableEq, Repr

/-- The bundle `rsp.snap` (30_encoding.md R69): named register copies, in no wire order (assumption log 10). -/
inductive Snap where
  /-- The bundle of a command that writes none: all 0. -/
  | zero
  /-- `SNAPSHOT` (42_aggregator.md R142). -/
  | vehicle (veh : VehicleRegs) (out : OutputRegs) (shutdown : Bool)
  /-- `BUTTON_STATUS` (43_button.md R159). -/
  | button (snap : ButtonSnap)
deriving DecidableEq, Repr

/-- A response (30_encoding.md R69). -/
structure Response where
  err : Bool
  shut : Bool
  value : Word
  data : FrameData
  record : Record
  matched : Bool
  src : BitVec 2
  heldEv : Bool
  snap : Snap
deriving DecidableEq, Repr

/-- Every field 0: "Every field a command's rule does not write is 0" (30_encoding.md R69). -/
def Response.zero : Response where
  err := false
  shut := false
  value := 0
  data := 0
  record := Record.zero
  matched := false
  src := 0
  heldEv := false
  snap := .zero

/-- One actuator write event `Write(a, v)` (30_encoding.md R70). -/
structure WriteEvent where
  actuator : Actuator
  level : Bool
deriving DecidableEq, Repr

/-- What the host presents on the ports, one entry at a time (30_encoding.md R65, 70_reset_and_hazards.md R220;
assumption log 3 and 5). -/
inductive Event where
  /-- `cmd_valid` = 0 (45_control.md R192). -/
  | idle
  /-- `cmd_valid` = 1 with the command word and the operand ports sampled with it (30_encoding.md R66, R71). -/
  | command (cmd : Byte) (inp : InPorts)
  /-- The hardware reset input takes this level; `now` is the time port at that moment (70_reset_and_hazards.md R220). -/
  | resetInput (level : Bool) (now : Time)
deriving DecidableEq, Repr

end Sys2Proof.Machine
end

