-- ==== Sys2Proof/Machine/Reset.lean ====
section
/-! DEFINITION. The reset value of every register (spec 10_state.md R47), shared by hardware reset (70_reset_and_hazards.md
R220), `INIT` (45_control.md R190) and `State.reset`. -/

namespace Sys2Proof.Machine

open Sys2Proof

/-- `SENTINEL` as the 8 bits of a raw register (10_state.md R21; at most 0xFF by 00_scope.md R6). -/
def sentinelByte (c : Config) : Byte := BitVec.ofNat 8 c.sentinel

/-- R47, vehicle-state registers: all raw values `SENTINEL` but `cur[2]` = `CODE_PARK`; `isParked` = 1. -/
def vehicleReset (c : Config) : VehicleRegs where
  cur := ⟨sentinelByte c, sentinelByte c, c.codePark, sentinelByte c⟩
  prev := PerSource.fill (sentinelByte c)
  ts := PerSource.fill 0
  seen := PerSource.fill false
  isUnlocked := false
  isParked := true
  lampShouldBeOn := false
  systemReady := false

/-- R47, button registers: all 0 but `lastChangeTime` = `t0`. -/
def buttonReset (t0 : Time) : ButtonRegs where
  rawState := false
  debouncedState := false
  previousDebouncedState := false
  pressedEdge := false
  releasedEdge := false
  doubleClickPending := false
  isHeld := false
  holdDurationMs := 0
  pressCount := 0
  lastPressTime := 0
  lastChangeTime := t0
  hasPrevPress := false
  prevPressWasHold := false

/-- R47, output registers: all 0. -/
def outputReset : OutputRegs where
  lastApplied := PerActuator.fill false
  toolboxActive := false
  toolboxStart := 0

end Sys2Proof.Machine
end

