-- ==== Sys2Proof/Machine/State.lean ====
section
/-! DEFINITION. The state of the machine: the block's registers (spec 10_state.md R20), its configuration, and the ports as
the step reads and drives them; the reasons a step can stop; the state after reset (R47). -/

namespace Sys2Proof.Machine

open Sys2Proof

/-- The machine. `veh`, `btn`, `out` and `shutdown` are the block's state `S` (10_state.md R20); the rest is what
10_state.md R48 says is no register: the configuration, and the ports of 30_encoding.md R65 (assumption log 1, 3, 4). -/
structure State where
  /-- The build-time parameters (00_scope.md R5). No step changes them. -/
  cfg : Config
  /-- The vehicle-state registers. -/
  veh : VehicleRegs
  /-- The button registers. -/
  btn : ButtonRegs
  /-- The output registers. -/
  out : OutputRegs
  /-- The mode bit: false Normal, true Shutdown (10_state.md R46). -/
  shutdown : Bool
  /-- The operand ports as sampled with the command being executed (30_encoding.md R66). -/
  inp : InPorts
  /-- The response of the last step; none where it accepted no command (30_encoding.md R69, 45_control.md R192). -/
  rsp : Option Response
  /-- The write list of the last step (30_encoding.md R70). -/
  writes : List WriteEvent
  /-- The level of the hardware reset input (70_reset_and_hazards.md R220). -/
  resetHeld : Bool
  /-- What the host presents next, oldest first (00_scope.md R11: issue order). -/
  host : List Event
deriving DecidableEq, Repr

/-- Reasons a step stops with a fault: none. "The block raises no exception and takes no trap. Every error is reported as
a value in the response" (60_exceptions.md R200); an illegal command word is a next state (45_control.md R191). -/
inductive Fault where
deriving DecidableEq, Repr

/-- Reasons a step has no meaning. -/
inductive Refusal where
  /-- Raised by an arm of `exec` for an instruction without a meaning; no arm raises it. Safe. -/
  | notModelled (mnemonic : String)
  /-- Raised by `step` for a configuration outside 00_scope.md R6 and 30_encoding.md R84: "A model refuses an illegal
  configuration; it does not give it a meaning". Safe: nothing is claimed of such a block. -/
  | illegalConfig
deriving DecidableEq, Repr

/-- The machine right after hardware reset, with the default configuration and `t0` = 0 (10_state.md R47, 70_reset_and_hazards.md
R220, R221; assumption log 6): no response, no writes, nothing presented by the host yet. -/
def State.reset : State where
  cfg := Config.default
  veh := vehicleReset Config.default
  btn := buttonReset 0
  out := outputReset
  shutdown := false
  inp := InPorts.zero
  rsp := none
  writes := []
  resetHeld := false
  host := []

end Sys2Proof.Machine
end

