-- ==== Sys2Proof/Machine/Operands.lean ====
section
/-! DEFINITION. The operand forms: the frame data as bytes and as a 64-bit view (spec 20_memory.md R51 to R53), and the
readers of the W-bit and record ports (30_encoding.md R66, R72, R82). -/

namespace Sys2Proof.Machine

open Sys2Proof

/-- `mask(n)` on 64 bits: `(1 << n) - 1` (00_scope.md R8). -/
def mask64 (n : Nat) : FrameData := BitVec.ofNat 64 (2 ^ n - 1)

/-- `raw64(data)`: byte `data[0]` is the least significant (20_memory.md R52). -/
def raw64 (data : Vector Byte 8) : FrameData :=
  data[0].setWidth 64 ||| data[1].setWidth 64 <<< 8 ||| data[2].setWidth 64 <<< 16 ||| data[3].setWidth 64 <<< 24 |||
  data[4].setWidth 64 <<< 32 ||| data[5].setWidth 64 <<< 40 ||| data[6].setWidth 64 <<< 48 ||| data[7].setWidth 64 <<< 56

/-- `data[i]` = `frame_data[8i+7:8i]` (20_memory.md R51). -/
def frameByte (raw : FrameData) (i : Nat) : Byte := raw.extractLsb' (8 * i) 8

/-- `MemRead(a, n)` on the frame operand: `n` bytes from byte index `a`, little-endian (20_memory.md R52). -/
def memRead (raw : FrameData) (a n : Nat) : FrameData := (raw >>> (8 * a)) &&& mask64 (8 * n)

/-- `MemWrite(a, n, v)`: the inverse of `MemRead` (20_memory.md R52). -/
def memWrite (raw : FrameData) (a n : Nat) (v : FrameData) : FrameData :=
  (raw &&& ~~~(mask64 (8 * n) <<< (8 * a))) ||| ((v &&& mask64 (8 * n)) <<< (8 * a))

/-- A value of a W-bit port: the port carries the low W bits (30_encoding.md R66; assumption log 2). -/
def portTime (c : Config) (t : Time) : Time := t % 2 ^ c.W

/-- `in.now` (30_encoding.md R66). -/
def State.now (s : State) : Time := portTime s.cfg s.inp.now

/-- `in.rec`: the record on the input ports (30_encoding.md R66, R72). -/
def State.recIn (s : State) : Record where
  valid := s.inp.recValid
  f0 := s.inp.recF0
  f1 := s.inp.recF1
  f2 := s.inp.recF2
  ts := portTime s.cfg s.inp.recTs

/-- The 1-bit result carried by bit 0 of `rsp.value` (30_encoding.md R69). -/
def boolWord (b : Bool) : Word := (BitVec.ofBool b).setWidth 32

end Sys2Proof.Machine
end

