-- ==== Sys2Proof/Machine/Flags.lean ====
section
/-! DEFINITION. Every derived flag and predicate: elapsed time (spec 00_scope.md R8), the derived vehicle flags
(42_aggregator.md R135 to R137), freshness and readiness (R138, R139), the activation gate (44_output.md R170) and the
state-driven targets (R172). -/

namespace Sys2Proof.Machine

open Sys2Proof

/-- `wsub(a, b)` = `(a - b) mod 2^W`, the only way an elapsed time is computed (00_scope.md R8). -/
def wsub (W : Nat) (a b : Time) : Time := (a + (2 ^ W - b % 2 ^ W)) % 2 ^ W

/-- R135. -/
def lampOn (c : Config) (v : Byte) : Bool := v == c.codeOn || v == c.codeRampUp

/-- R136. -/
def unlocked (c : Config) (v : Byte) : Bool := v == c.codeUnlockAll || v == c.codeUnlockDrv

/-- R137. -/
def parked (c : Config) (v : Byte) : Bool := v == c.codePark

/-- R138: seen, and the elapsed time strictly below the source's timeout. -/
def fresh (c : Config) (v : VehicleRegs) (s : Source) (now : Time) : Bool :=
  v.seen.get s && decide (wsub c.W now (v.ts.get s) < c.readyTimeoutMs.get s)

/-- R139: readiness at `now` under the configured policy. -/
def readiness (c : Config) (v : VehicleRegs) (now : Time) : Bool :=
  match c.readyPolicy with
  | .any => fresh c v .lamp now || fresh c v .lock now || fresh c v .park now || fresh c v .batt now
  | .all => fresh c v .lamp now && fresh c v .lock now && fresh c v .park now && fresh c v .batt now

/-- `toolboxMayActivate(r, p, u)` (44_output.md R170). -/
def toolboxMayActivate (r p u : Bool) : Bool := r && p && u

/-- The targets of `LAMP`, `PARKED_IND` and `UNLOCKED_IND` (44_output.md R172): off when not ready. -/
def targets (v : VehicleRegs) : Bool × Bool × Bool :=
  if v.systemReady then (v.lampShouldBeOn, v.isParked, v.isUnlocked) else (false, false, false)

end Sys2Proof.Machine
end

