-- ==== Sys2Proof/Machine/Ops.lean ====
section
/-! DEFINITION. The shared operations on the state: accepting a command, answering, writing an actuator, raising
`IllegalCommand`, resetting, and the hardware reset input. -/

namespace Sys2Proof.Machine

open Sys2Proof

/-- What a step without an accepted command leaves: no response and no write (45_control.md R192). -/
def State.quiet (s : State) : State := { s with rsp := none, writes := [] }

/-- The start of every accepted command: exactly one response, every field 0 until written, and an empty write list
(30_encoding.md R69, R70). -/
def State.begin (s : State) : State := { s with rsp := some Response.zero, writes := [] }

/-- The response of the command. -/
def State.respond (s : State) (r : Response) : State := { s with rsp := some r }

/-- `emit Write(a, v)`: append the event and set `lastApplied[a]` (00_scope.md R10). -/
def State.emit (s : State) (a : Actuator) (v : Bool) : State :=
  { s with writes := s.writes ++ [⟨a, v⟩], out := { s.out with lastApplied := s.out.lastApplied.set a v } }

/-- Write an actuator only when the target differs from the last-applied level (44_output.md R173). -/
def State.emitOnChange (s : State) (a : Actuator) (v : Bool) : State :=
  if v = s.out.lastApplied.get a then s else s.emit a v

/-- The four unconditional off-writes, in ascending actuator number (44_output.md R178, 45_control.md R190). -/
def State.emitAllOff (s : State) : State :=
  (((s.emit .lamp false).emit .toolbox false).emit .parkedInd false).emit .unlockedInd false

/-- `S <- the reset state of R47 with t0` (45_control.md R190, 70_reset_and_hazards.md R220). -/
def State.resetRegs (s : State) (t0 : Time) : State :=
  { s with veh := vehicleReset s.cfg, btn := buttonReset t0, out := outputReset, shutdown := false }

/-- `raise IllegalCommand`: `rsp.err` = 1, every other response field 0, no write, no register changed
(00_scope.md R10, 45_control.md R191). The block has no other exception and nothing to return from (60_exceptions.md
R205, R206). -/
def State.illegalCommand (s : State) : State := s.begin.respond { Response.zero with err := true }

/-- A command suppressed in Shutdown mode: `rsp.shut` = 1 and nothing else (44_output.md R179). -/
def State.suppressed (s : State) : State := s.begin.respond { Response.zero with shut := true }

/-- The answer of a command whose result is one bit: bit 0 of `rsp.value` (30_encoding.md R69). -/
def State.respondBit (s : State) (b : Bool) : State := s.respond { Response.zero with value := boolWord b }

/-- The answer of a command that returns a record (30_encoding.md R69, R72). -/
def State.respondRecord (s : State) (r : Record) : State := s.respond { Response.zero with record := r }

/-- The block accepts a command: the host's entry is consumed and the operand ports are sampled (30_encoding.md R66). -/
def State.accept (s : State) (inp : InPorts) (rest : List Event) : State :=
  { s with inp := inp, host := rest }

/-- An entry of the host without an accepted command is consumed: nothing else happens (45_control.md R192). -/
def State.pass (s : State) (rest : List Event) : State := { s with host := rest }.quiet

/-- The hardware reset input takes a level (70_reset_and_hazards.md R220; assumption log 5): on release every register
takes its reset value with `t0` = the `now` of that moment; no response and no write event. -/
def State.driveReset (s : State) (level : Bool) (now : Time) : State :=
  if s.resetHeld && !level then
    ({ s with resetHeld := level }.quiet).resetRegs (portTime s.cfg now)
  else { s with resetHeld := level }.quiet

/-- `act_level[a]` drives `lastApplied[a]` continuously (30_encoding.md R70). -/
def State.actLevel (s : State) (a : Actuator) : Bool := s.out.lastApplied.get a

/-- `act_wr[a]`: the one-command pulse of a write event (30_encoding.md R70). -/
def State.actWr (s : State) (a : Actuator) : Bool := s.writes.any fun e => e.actuator == a

/-- The operands presented with the next command: those of the host's first entry if it is a command. -/
def State.nextOperands (s : State) : InPorts :=
  match s.host with
  | .command _ p :: _ => p
  | _ => s.inp

/-- The host's entries behind the next command. -/
def State.afterNext (s : State) : List Event :=
  match s.host with
  | .command _ _ :: rest => rest
  | evs => evs

/-- The host presents the command word `w` as its next entry (assumption log 3). -/
def State.presentWord (s : State) (w : Byte) : State :=
  { s with resetHeld := false, host := .command w s.nextOperands :: s.afterNext }

end Sys2Proof.Machine
end

