-- ==== Sys2Proof/Machine/Button.lean ====
section
/-! DEFINITION. The button debounce and gesture commands (spec 43_button.md). The four steps of the poll act on a working
copy of the button registers, as R150 says. -/

namespace Sys2Proof.Machine

open Sys2Proof

/-- The sampling half of `sampleAndDebounce` (R151): keep the previous committed level, take the raw level. -/
def ButtonRegs.sample (b : ButtonRegs) (now : Time) (p : Bool) : ButtonRegs :=
  if p ≠ b.rawState then
    { b with previousDebouncedState := b.debouncedState, rawState := p, lastChangeTime := now }
  else { b with previousDebouncedState := b.debouncedState }

/-- The committing half of `sampleAndDebounce` (R151): a level stable for at least `DEBOUNCE_MS` is committed. -/
def ButtonRegs.commit (c : Config) (b : ButtonRegs) (now : Time) : ButtonRegs :=
  if b.rawState ≠ b.debouncedState ∧ c.debounceMs ≤ wsub c.W now b.lastChangeTime then
    { b with debouncedState := b.rawState }
  else b

/-- `sampleAndDebounce(B, now, p)` (R151). -/
def ButtonRegs.sampleAndDebounce (c : Config) (b : ButtonRegs) (now : Time) (p : Bool) : ButtonRegs :=
  (b.sample now p).commit c now

/-- Whether a press edge at `now` completes a double click (R152): a previous press, strictly within the window, that was
no hold. -/
def ButtonRegs.isDoubleClick (c : Config) (b : ButtonRegs) (now : Time) : Bool :=
  b.hasPrevPress && decide (wsub c.W now b.lastPressTime < c.doubleClickMs) && !b.prevPressWasHold

/-- `pressStep(B, now)` (R152). -/
def ButtonRegs.pressStep (c : Config) (b : ButtonRegs) (now : Time) : ButtonRegs :=
  { b with
    pressedEdge := true
    pressCount := (b.pressCount + 1) % 2 ^ c.pressCountW
    doubleClickPending := b.doubleClickPending || b.isDoubleClick c now
    lastPressTime := now
    hasPrevPress := true
    isHeld := false
    holdDurationMs := 0 }

/-- `releaseStep(B, now)` (R153). -/
def ButtonRegs.releaseStep (c : Config) (b : ButtonRegs) (now : Time) : ButtonRegs :=
  { b with
    releasedEdge := true
    prevPressWasHold := b.isHeld
    holdDurationMs := wsub c.W now b.lastPressTime
    isHeld := false }

/-- `holdStep(B, now)` (R154): the registers and the one-poll observation `held_ev`. -/
def ButtonRegs.holdStep (c : Config) (b : ButtonRegs) (now : Time) : ButtonRegs × Bool :=
  let d := wsub c.W now b.lastPressTime
  if c.holdMs < d ∧ b.isHeld = false then ({ b with holdDurationMs := d, isHeld := true }, true)
  else ({ b with holdDurationMs := d }, false)

/-- The press step where the committed level rose in this poll (R150). -/
def ButtonRegs.pressIfRisen (c : Config) (b : ButtonRegs) (now : Time) : ButtonRegs :=
  if b.debouncedState = true ∧ b.previousDebouncedState = false then b.pressStep c now else b

/-- The release step where the committed level fell in this poll (R150). -/
def ButtonRegs.releaseIfFallen (c : Config) (b : ButtonRegs) (now : Time) : ButtonRegs :=
  if b.debouncedState = false ∧ b.previousDebouncedState = true then b.releaseStep c now else b

/-- The hold step where the committed level is 1 (R150). -/
def ButtonRegs.holdIfDown (c : Config) (b : ButtonRegs) (now : Time) : ButtonRegs × Bool :=
  if b.debouncedState = true then b.holdStep c now else (b, false)

/-- One poll on the button registers: debounce, press, release, hold, in that order (R150, 60_exceptions.md R204). -/
def ButtonRegs.poll (c : Config) (b : ButtonRegs) (now : Time) (p : Bool) : ButtonRegs × Bool :=
  ButtonRegs.holdIfDown c
    (ButtonRegs.releaseIfFallen c (ButtonRegs.pressIfRisen c (b.sampleAndDebounce c now p) now) now) now

/-- `BUTTON_POLL` (R150). -/
def execButtonPoll (s : State) : Host.Outcome State Fault Refusal :=
  let r := s.btn.poll s.cfg s.now s.inp.btnPressed
  .next { s.begin.respond { Response.zero with heldEv := r.2 } with btn := r.1 }

/-- `READ_PRESSED` (R156). -/
def execReadPressed (s : State) : Host.Outcome State Fault Refusal :=
  .next { s.begin.respondBit s.btn.pressedEdge with btn := { s.btn with pressedEdge := false } }

/-- `READ_RELEASED` (R157). -/
def execReadReleased (s : State) : Host.Outcome State Fault Refusal :=
  .next { s.begin.respondBit s.btn.releasedEdge with btn := { s.btn with releasedEdge := false } }

/-- `READ_DOUBLE` (R158). -/
def execReadDouble (s : State) : Host.Outcome State Fault Refusal :=
  .next { s.begin.respondBit s.btn.doubleClickPending with btn := { s.btn with doubleClickPending := false } }

/-- The registers `BUTTON_STATUS` shows: all but the edge flags (R159). -/
def ButtonRegs.status (b : ButtonRegs) : ButtonSnap where
  rawState := b.rawState
  debouncedState := b.debouncedState
  previousDebouncedState := b.previousDebouncedState
  isHeld := b.isHeld
  holdDurationMs := b.holdDurationMs
  pressCount := b.pressCount
  lastPressTime := b.lastPressTime
  lastChangeTime := b.lastChangeTime
  hasPrevPress := b.hasPrevPress
  prevPressWasHold := b.prevPressWasHold

/-- `BUTTON_STATUS` (R159). -/
def execButtonStatus (s : State) : Host.Outcome State Fault Refusal :=
  .next (s.begin.respond { Response.zero with snap := .button s.btn.status })

/-- The document's conceptual states (R160). -/
inductive Gesture where
  | released
  | pressedDebouncing
  | pressed
  | held
deriving DecidableEq, Repr

/-- The conceptual state the registers stand for (R160); no rule of the block reads it. -/
def ButtonRegs.gesture (b : ButtonRegs) : Gesture :=
  if b.debouncedState then (if b.isHeld then .held else .pressed)
  else if b.rawState then .pressedDebouncing else .released

end Sys2Proof.Machine
end

