-- ==== Sys2Proof/Machine/Codec.lean ====
section
/-! DEFINITION. The bit-field codec (spec 40_codec.md): `EXTRACT` and `SET`, and the functions the decoders share. -/

namespace Sys2Proof.Machine

open Sys2Proof

/-- The codec precondition (R100). -/
def inRange (sb len : Nat) : Bool := decide (1 ≤ len) && decide (len ≤ 16) && decide (sb ≤ 63) && decide (len ≤ sb + 1)

/-- `extract(raw64, sb, len)` (R101): 0 outside the precondition. -/
def extract (raw : FrameData) (sb len : Nat) : Word :=
  if inRange sb len then ((raw >>> (sb + 1 - len)) &&& mask64 len).setWidth 32 else 0

/-- `set(raw64, sb, len, v)` (R103): unchanged outside the precondition, the value masked to `len` bits. -/
def setField (raw : FrameData) (sb len : Nat) (v : Word) : FrameData :=
  if inRange sb len then
    (raw &&& ~~~(mask64 len <<< (sb + 1 - len))) ||| ((v.setWidth 64 &&& mask64 len) <<< (sb + 1 - len))
  else raw

/-- `EXTRACT` (R101). -/
def execExtract (s : State) : Host.Outcome State Fault Refusal :=
  .next (s.begin.respond
    { Response.zero with value := extract s.inp.frameData s.inp.bfStart.toNat s.inp.bfLen.toNat })

/-- `SET` (R103). -/
def execSet (s : State) : Host.Outcome State Fault Refusal :=
  .next (s.begin.respond
    { Response.zero with data := setField s.inp.frameData s.inp.bfStart.toNat s.inp.bfLen.toNat s.inp.bfValue })

end Sys2Proof.Machine
end

