-- ==== Sys2Proof/Machine/Control.lean ====
section
/-! DEFINITION. `INIT` (spec 45_control.md R190). -/

namespace Sys2Proof.Machine

open Sys2Proof

/-- `INIT` (R190): the four unconditional off-writes, then the reset state with `t0` = `now`. -/
def execInit (s : State) : Host.Outcome State Fault Refusal := .next (s.begin.emitAllOff.resetRegs s.now)

end Sys2Proof.Machine
end

