-- ==== Sys2Proof/Machine/Decoder.lean ====
section
/-! DEFINITION. The four message decoders (spec 41_decoder.md R110 to R114). -/

namespace Sys2Proof.Machine

open Sys2Proof

/-- The record field a signal goes to (30_encoding.md R72, R84). -/
inductive RecField where
  | f0
  | f1
  | f2
deriving DecidableEq, Repr

/-- `r.fk <- v`. -/
def Record.put (r : Record) (k : RecField) (v : Half) : Record :=
  match k with
  | .f0 => { r with f0 := v }
  | .f1 => { r with f1 := v }
  | .f2 => { r with f2 := v }

/-- One entry of `sigs(s)`: record field, place, limit (R110). -/
structure SigSpec where
  field : RecField
  pos : SigPos
  limit : Nat
deriving DecidableEq, Repr

/-- `sigs(s)`: the signals of a source with their limits (30_encoding.md R84, R87). -/
def sigs (c : Config) : Source → List SigSpec
  | .lamp => [⟨.f0, c.sigPudLamp, c.maxLamp⟩, ⟨.f1, c.sigIllum, c.maxIllum⟩, ⟨.f2, c.sigCourtesy, c.maxCourtesy⟩]
  | .lock => [⟨.f0, c.sigLock, c.maxLock⟩]
  | .park => [⟨.f0, c.sigPark, c.maxPark⟩]
  | .batt => [⟨.f0, c.sigBatt, c.battMax⟩]

/-- One signal of R110's loop: extract, store the low 16 bits, and apply the range policy. -/
def decodeSignal (raw : FrameData) (r : Record) (g : SigSpec) : Record :=
  let v := extract raw g.pos.start g.pos.len
  let r' := r.put g.field (v.setWidth 16)
  if g.limit < v.toNat then { r' with valid := false } else r'

/-- `decode(s, id, len, raw64, now)` (R110): the shape check first, then every signal. The fields of a mismatched record
are 0 by R110 (decision D15; assumption log 7). -/
def decodeRecord (c : Config) (s : Source) (id : Word) (len : Byte) (raw : FrameData) (now : Time) : Record :=
  if id ≠ c.id.get s ∨ len ≠ 8 then ⟨false, 0, 0, 0, now⟩
  else (sigs c s).foldl (decodeSignal raw) ⟨true, 0, 0, 0, now⟩

/-- The record the decoder of a source makes of the frame on the ports (R111 to R115). -/
def State.decoded (s : State) (src : Source) : Record :=
  decodeRecord s.cfg src s.inp.frameId s.inp.frameLen s.inp.frameData s.now

/-- `DECODE_LAMP` (R111). -/
def execDecodeLamp (s : State) : Host.Outcome State Fault Refusal := .next (s.begin.respondRecord (s.decoded .lamp))

/-- `DECODE_LOCK` (R112). -/
def execDecodeLock (s : State) : Host.Outcome State Fault Refusal := .next (s.begin.respondRecord (s.decoded .lock))

/-- `DECODE_PARK` (R113). -/
def execDecodePark (s : State) : Host.Outcome State Fault Refusal := .next (s.begin.respondRecord (s.decoded .park))

/-- `DECODE_BATT` (R114). -/
def execDecodeBatt (s : State) : Host.Outcome State Fault Refusal := .next (s.begin.respondRecord (s.decoded .batt))

end Sys2Proof.Machine
end

