-- ==== Sys2Proof/Machine/Output.lean ====
section
/-! DEFINITION. The decision and output-multiplexer commands (spec 44_output.md). -/

namespace Sys2Proof.Machine

open Sys2Proof

/-- `MAY_ACTIVATE` (R171): the gate on `pred_in`, bit 2 `systemReady`, bit 1 `isParked`, bit 0 `isUnlocked`
(30_encoding.md R82). -/
def execMayActivate (s : State) : Host.Outcome State Fault Refusal :=
  .next (s.begin.respondBit
    (toolboxMayActivate (s.inp.predIn.getLsbD 2) (s.inp.predIn.getLsbD 1) (s.inp.predIn.getLsbD 0)))

/-- `OUTPUT_TICK` (R173): suppressed in Shutdown mode, else each state-driven actuator on change, in ascending number. -/
def execOutputTick (s : State) : Host.Outcome State Fault Refusal :=
  if s.shutdown then .next s.suppressed
  else
    let t := targets s.veh
    .next (((s.begin.emitOnChange .lamp t.1).emitOnChange .parkedInd t.2.1).emitOnChange .unlockedInd t.2.2)

/-- `go` of `TOOLBOX_EVAL` (R175): a pending press edge and an open gate. -/
def State.toolboxGo (s : State) : Bool :=
  s.btn.pressedEdge && toolboxMayActivate s.veh.systemReady s.veh.isParked s.veh.isUnlocked

/-- Start the toolbox pulse: active, its start time, and the on-write (R175). -/
def State.startPulse (s : State) (now : Time) : State :=
  { s with out := { s.out with toolboxActive := true, toolboxStart := now } }.emit .toolbox true

/-- End the toolbox pulse: inactive, and the off-write (R176). -/
def State.endPulse (s : State) : State :=
  { s with out := { s.out with toolboxActive := false } }.emit .toolbox false

/-- `TOOLBOX_EVAL` (R175): the press edge is consumed whatever the gate gives. -/
def execToolboxEval (s : State) : Host.Outcome State Fault Refusal :=
  if s.shutdown then .next s.suppressed
  else
    let s1 := { s.begin.respondBit s.toolboxGo with btn := { s.btn with pressedEdge := false } }
    if s.toolboxGo && !s.out.toolboxActive then .next (s1.startPulse s.now) else .next s1

/-- The pulse has run its time (R176). -/
def State.pulseDue (s : State) : Bool :=
  s.out.toolboxActive && decide (s.cfg.toolboxMs ≤ wsub s.cfg.W s.now s.out.toolboxStart)

/-- `TOOLBOX_TIMER` (R176). -/
def execToolboxTimer (s : State) : Host.Outcome State Fault Refusal :=
  if s.shutdown then .next s.suppressed
  else if s.pulseDue then .next s.begin.endPulse else .next s.begin

/-- `SAFE_SHUTDOWN` (R178): all four actuators off, unconditionally, the pulse ended, Shutdown mode entered. -/
def execSafeShutdown (s : State) : Host.Outcome State Fault Refusal :=
  let s1 := s.begin.emitAllOff
  .next { s1 with out := { s1.out with toolboxActive := false }, shutdown := true }

end Sys2Proof.Machine
end

