-- ==== Sys2Proof/Machine/Vehicle.lean ====
section
/-! DEFINITION. The vehicle-state commands (spec 42_aggregator.md) and `FRAME_IN` (41_decoder.md R115). -/

namespace Sys2Proof.Machine

open Sys2Proof

/-- The derived flag a source owns, recomputed from its new raw value (42_aggregator.md R130, R135 to R137). -/
def VehicleRegs.recompute (c : Config) (v : VehicleRegs) (src : Source) (x : Byte) : VehicleRegs :=
  match src with
  | .lamp => { v with lampShouldBeOn := lampOn c x }
  | .lock => { v with isUnlocked := unlocked c x }
  | .park => { v with isParked := parked c x }
  | .batt => v

/-- `updateSrc(s, rec)` (R130) on the vehicle registers: nothing when the record is invalid. Bits 15 to 8 of `f0`
are dropped; a valid record of a decoder sets one only where `MAX_PARK` > 255 (log 15). -/
def VehicleRegs.update (c : Config) (v : VehicleRegs) (src : Source) (r : Record) : VehicleRegs :=
  if r.valid then
    VehicleRegs.recompute c
      { v with
        prev := v.prev.set src (v.cur.get src)
        cur := v.cur.set src (r.f0.setWidth 8)
        ts := v.ts.set src r.ts
        seen := v.seen.set src true }
      src (r.f0.setWidth 8)
  else v

/-- `updateSrc(s, rec)` (R130) on the state. -/
def State.updateSrc (s : State) (src : Source) (r : Record) : State :=
  { s with veh := s.veh.update s.cfg src r }

/-- `UPDATE_LAMP` (R131). -/
def execUpdateLamp (s : State) : Host.Outcome State Fault Refusal := .next (s.begin.updateSrc .lamp s.recIn)

/-- `UPDATE_LOCK` (R132). -/
def execUpdateLock (s : State) : Host.Outcome State Fault Refusal := .next (s.begin.updateSrc .lock s.recIn)

/-- `UPDATE_PARK` (R133). -/
def execUpdatePark (s : State) : Host.Outcome State Fault Refusal := .next (s.begin.updateSrc .park s.recIn)

/-- `UPDATE_BATT` (R134). -/
def execUpdateBatt (s : State) : Host.Outcome State Fault Refusal := .next (s.begin.updateSrc .batt s.recIn)

/-- The source whose identifier a frame carries (41_decoder.md R115); unique in a legal configuration (00_scope.md R6). -/
def sourceOfId (c : Config) (id : Word) : Option Source :=
  if id = c.id.lamp then some .lamp
  else if id = c.id.lock then some .lock
  else if id = c.id.park then some .park
  else if id = c.id.batt then some .batt
  else none

/-- `FRAME_IN` (41_decoder.md R115): decode the frame of a monitored message and update its source. -/
def execFrameIn (s : State) : Host.Outcome State Fault Refusal :=
  match sourceOfId s.cfg s.inp.frameId with
  | none => .next s.begin
  | some src =>
    .next ((s.begin.respond
      { Response.zero with matched := true, src := src.num, record := s.decoded src }).updateSrc src (s.decoded src))

/-- `RECOMPUTE_READY` (R139). -/
def execRecomputeReady (s : State) : Host.Outcome State Fault Refusal :=
  .next { s.begin.respondBit (readiness s.cfg s.veh s.now) with
    veh := { s.veh with systemReady := readiness s.cfg s.veh s.now } }

/-- `TOUCH_FRESHNESS` (R141). -/
def execTouchFreshness (s : State) : Host.Outcome State Fault Refusal :=
  .next { s.begin with veh := { s.veh with ts := PerSource.fill s.now, seen := PerSource.fill true } }

/-- `SNAPSHOT` (R142). -/
def execSnapshot (s : State) : Host.Outcome State Fault Refusal :=
  .next (s.begin.respond { Response.zero with snap := .vehicle s.veh s.out s.shutdown })

end Sys2Proof.Machine
end

