-- ==== Sys2Proof/Machine/Dispatch.lean ====
section
/-! DEFINITION. The dispatch of a command to its meaning, one arm per constructor (spec 30_encoding.md R73). -/

namespace Sys2Proof.Machine

open Sys2Proof

def exec (i : Instr) (s : State) : Host.Outcome State Fault Refusal :=
  match i with
  | .extract => Sys2Proof.Machine.execExtract s
  | .set => Sys2Proof.Machine.execSet s
  | .init => Sys2Proof.Machine.execInit s
  | .decodeLamp => Sys2Proof.Machine.execDecodeLamp s
  | .decodeLock => Sys2Proof.Machine.execDecodeLock s
  | .decodePark => Sys2Proof.Machine.execDecodePark s
  | .decodeBatt => Sys2Proof.Machine.execDecodeBatt s
  | .updateLamp => Sys2Proof.Machine.execUpdateLamp s
  | .updateLock => Sys2Proof.Machine.execUpdateLock s
  | .updatePark => Sys2Proof.Machine.execUpdatePark s
  | .updateBatt => Sys2Proof.Machine.execUpdateBatt s
  | .frameIn => Sys2Proof.Machine.execFrameIn s
  | .recomputeReady => Sys2Proof.Machine.execRecomputeReady s
  | .touchFreshness => Sys2Proof.Machine.execTouchFreshness s
  | .snapshot => Sys2Proof.Machine.execSnapshot s
  | .buttonPoll => Sys2Proof.Machine.execButtonPoll s
  | .readPressed => Sys2Proof.Machine.execReadPressed s
  | .readReleased => Sys2Proof.Machine.execReadReleased s
  | .readDouble => Sys2Proof.Machine.execReadDouble s
  | .buttonStatus => Sys2Proof.Machine.execButtonStatus s
  | .outputTick => Sys2Proof.Machine.execOutputTick s
  | .toolboxEval => Sys2Proof.Machine.execToolboxEval s
  | .toolboxTimer => Sys2Proof.Machine.execToolboxTimer s
  | .mayActivate => Sys2Proof.Machine.execMayActivate s
  | .safeShutdown => Sys2Proof.Machine.execSafeShutdown s

end Sys2Proof.Machine
end

