-- ==== Sys2Proof/Machine/Port.lean ====
section
/-! DEFINITION. The command port and the reset input: what the block does with the next entry of the host (spec
00_scope.md R11, 45_control.md R191, R192, 70_reset_and_hazards.md R220). -/

namespace Sys2Proof.Machine

open Sys2Proof

/-- An accepted command word: a legal word is executed, an illegal one raises `IllegalCommand`, checked before anything
else (60_exceptions.md R204). -/
def execWord (cmd : Byte) (s : State) : Host.Outcome State Fault Refusal :=
  match decode cmd with
  | .ok i => exec i s
  | .error _ => .next s.illegalCommand

/-- The next entry of the host is served. With nothing presented, or `cmd_valid` = 0, or the reset input asserted, no
command is accepted (45_control.md R192, 70_reset_and_hazards.md R220). -/
def State.serve (s : State) : Host.Outcome State Fault Refusal :=
  match s.host with
  | [] => .next s.quiet
  | .idle :: rest => .next (s.pass rest)
  | .resetInput level now :: rest => .next ((s.pass rest).driveReset level now)
  | .command cmd inp :: rest => if s.resetHeld then .next (s.pass rest) else execWord cmd (s.accept inp rest)

end Sys2Proof.Machine
end

