-- ==== Sys2Proof/Machine/Step.lean ====
section
/-! DEFINITION. One step of the block (spec 00_scope.md R11): one entry of the host. -/

namespace Sys2Proof.Machine

open Sys2Proof

/-- One step: an illegal configuration is refused (00_scope.md R6), else the next entry of the host is served. -/
def step (s : State) : Host.Outcome State Fault Refusal :=
  if s.cfg.legal then s.serve else .refused .illegalConfig

/-- `s` with the command word `w` as the next entry the host presents (assumption log 3): "The first command the host
issues after reset release is the first step" (70_reset_and_hazards.md R221). -/
def State.withFetchWord (s : State) (nbits w : Nat) : State := s.presentWord (BitVec.ofNat 8 (w % 2 ^ nbits))

end Sys2Proof.Machine
end

