-- ==== Sys2Proof/Machine/Program.lean ====
section
/-! DEFINITION. The host's notation for commands: the assembler line (spec 30_encoding.md R89, R90) as abstract syntax, and
the pseudo-instructions `TICK` (R91) and `DECUPD_<SRC>` (R92) as their expansions. The block never reads these: they say what
a host presents on the ports. -/

namespace Sys2Proof.Machine

open Sys2Proof

/-- A frame as the host receives it: the triple of 30_encoding.md R67, the data as 8 bytes, `data[0]` first (R90). -/
structure Frame where
  id : Word
  len : Byte
  data : Vector Byte 8
deriving DecidableEq, Repr

/-- `name=value` of an assembler line (R89). -/
inductive PortSet where
  | id (v : Word)
  | len (v : Byte)
  | data (bytes : Vector Byte 8)
  | sb (v : Byte)
  | bl (v : Byte)
  | val (v : Word)
  | rv (b : Bool)
  | f0 (v : Half)
  | f1 (v : Half)
  | f2 (v : Half)
  | rts (t : Time)
  | btn (b : Bool)
  /-- Three binary digits, `systemReady` first. -/
  | pred (r p u : Bool)
deriving DecidableEq, Repr

/-- The port a name sets (R89). -/
def PortSet.apply (p : InPorts) : PortSet → InPorts
  | .id v => { p with frameId := v }
  | .len v => { p with frameLen := v }
  | .data bytes => { p with frameData := raw64 bytes }
  | .sb v => { p with bfStart := v }
  | .bl v => { p with bfLen := v }
  | .val v => { p with bfValue := v }
  | .rv b => { p with recValid := b }
  | .f0 v => { p with recF0 := v }
  | .f1 v => { p with recF1 := v }
  | .f2 v => { p with recF2 := v }
  | .rts t => { p with recTs := t }
  | .btn b => { p with btnPressed := b }
  | .pred r p' u => { p with predIn := (BitVec.ofBool r ++ BitVec.ofBool p') ++ BitVec.ofBool u }

/-- An assembler line `MNEMONIC [name=value ...] [@time]` (R89). -/
structure Line where
  instr : Instr
  sets : List PortSet
  time : Option Time
deriving DecidableEq, Repr

/-- The ports of a line: "A port the line does not set is 0" (R89). -/
def Line.ports (l : Line) : InPorts :=
  l.sets.foldl PortSet.apply { InPorts.zero with now := l.time.getD 0 }

/-- What a line presents on the ports: its command byte with its port values (R90). -/
def Line.event (l : Line) : Event := .command (encode l.instr) l.ports

/-- The settings of a frame operand. -/
def Frame.sets (f : Frame) : List PortSet := [.id f.id, .len f.len, .data f.data]

/-- `FRAME_IN` of a frame `@t`. -/
def frameInLine (f : Frame) (t : Time) : Line := ⟨.frameIn, f.sets, some t⟩

/-- Whether a `TICK` at `t` issues an `OUTPUT_TICK`: none issued since reset, or at least `OUTPUT_PERIOD_MS` ago (R91). -/
def outputDue (c : Config) (lastOutput : Option Time) (t : Time) : Bool :=
  match lastOutput with
  | none => true
  | some u => decide (c.outputPeriodMs ≤ wsub c.W t u)

/-- The commands of a `TICK` with the frames it drains (R91), in order. -/
def tickLines (c : Config) (lastOutput : Option Time) (frames : List Frame) (btn : Bool) (t : Time) : List Line :=
  frames.map (fun f => frameInLine f t) ++
  [⟨.recomputeReady, [], some t⟩, ⟨.buttonPoll, [.btn btn], some t⟩, ⟨.toolboxEval, [], some t⟩,
   ⟨.toolboxTimer, [], some t⟩] ++
  (if outputDue c lastOutput t then [⟨.outputTick, [], none⟩] else [])

/-- `TICK frames=[F1..Fk], btn=b @t` (R91): its lines, and the time of the last `TICK` that issued an `OUTPUT_TICK`. A tick
of more than `MAX_FRAMES_PER_TICK` frames is none. -/
def tick (c : Config) (lastOutput : Option Time) (frames : List Frame) (btn : Bool) (t : Time) :
    Option (List Line × Option Time) :=
  if frames.length ≤ c.maxFramesPerTick then
    some (tickLines c lastOutput frames btn t, if outputDue c lastOutput t then some t else lastOutput)
  else none

/-- `DECODE_<SRC>` of a source. -/
def decodeInstr : Source → Instr
  | .lamp => .decodeLamp
  | .lock => .decodeLock
  | .park => .decodePark
  | .batt => .decodeBatt

/-- `UPDATE_<SRC>` of a source. -/
def updateInstr : Source → Instr
  | .lamp => .updateLamp
  | .lock => .updateLock
  | .park => .updatePark
  | .batt => .updateBatt

/-- The first command of `DECUPD_<SRC> frame @t` (R92). -/
def decupdDecode (src : Source) (f : Frame) (t : Time) : Line := ⟨decodeInstr src, f.sets, some t⟩

/-- The second command of `DECUPD_<SRC>`: the update with the first command's `rsp.rec_*` as `rec_*` (R92). -/
def decupdUpdate (src : Source) (r : Record) : Line :=
  ⟨updateInstr src, [.rv r.valid, .f0 r.f0, .f1 r.f1, .f2 r.f2, .rts r.ts], none⟩

end Sys2Proof.Machine
end

