-- ==== Sys2Proof/Safety.lean ====
section
/-! DEFINITION. The terms the claims are stated in: elapsed time as exact arithmetic, the registers by name with the
"state written" and "ports" columns of the opcode map (spec 30_encoding.md R73), the invariants (10_state.md R29,
44_output.md R180, 43_button.md R160), and runs of polls. -/

namespace Sys2Proof.Machine

open Sys2Proof

/-- The elapsed time from `b` to `a` on a W-bit clock, in exact integer arithmetic reduced modulo 2^W (00_scope.md R8). -/
def elapsed (W : Nat) (a b : Time) : Nat := (((a : Int) - (b : Int)) % ((2 : Int) ^ W)).toNat

/-- The value of a frame field in exact arithmetic: bits `sb` down to `sb - len + 1` of the 64-bit view (20_memory.md
R53). -/
def fieldValue (raw : FrameData) (sb len : Nat) : Nat := raw.toNat / 2 ^ (sb + 1 - len) % 2 ^ len

/-- The registers of the block, by name (10_state.md R20 to R47). -/
inductive Reg where
  | cur (s : Source)
  | prev (s : Source)
  | ts (s : Source)
  | seen (s : Source)
  | isUnlocked
  | isParked
  | lampShouldBeOn
  | systemReady
  | rawState
  | debouncedState
  | previousDebouncedState
  | pressedEdge
  | releasedEdge
  | doubleClickPending
  | isHeld
  | holdDurationMs
  | pressCount
  | lastPressTime
  | lastChangeTime
  | hasPrevPress
  | prevPressWasHold
  | lastApplied (a : Actuator)
  | toolboxActive
  | toolboxStart
  | shutdown
deriving DecidableEq, Repr

/-- The value of a register as a number. -/
def State.reg (s : State) : Reg → Nat
  | .cur k => (s.veh.cur.get k).toNat
  | .prev k => (s.veh.prev.get k).toNat
  | .ts k => s.veh.ts.get k
  | .seen k => (s.veh.seen.get k).toNat
  | .isUnlocked => s.veh.isUnlocked.toNat
  | .isParked => s.veh.isParked.toNat
  | .lampShouldBeOn => s.veh.lampShouldBeOn.toNat
  | .systemReady => s.veh.systemReady.toNat
  | .rawState => s.btn.rawState.toNat
  | .debouncedState => s.btn.debouncedState.toNat
  | .previousDebouncedState => s.btn.previousDebouncedState.toNat
  | .pressedEdge => s.btn.pressedEdge.toNat
  | .releasedEdge => s.btn.releasedEdge.toNat
  | .doubleClickPending => s.btn.doubleClickPending.toNat
  | .isHeld => s.btn.isHeld.toNat
  | .holdDurationMs => s.btn.holdDurationMs
  | .pressCount => s.btn.pressCount
  | .lastPressTime => s.btn.lastPressTime
  | .lastChangeTime => s.btn.lastChangeTime
  | .hasPrevPress => s.btn.hasPrevPress.toNat
  | .prevPressWasHold => s.btn.prevPressWasHold.toNat
  | .lastApplied a => (s.out.lastApplied.get a).toNat
  | .toolboxActive => s.out.toolboxActive.toNat
  | .toolboxStart => s.out.toolboxStart
  | .shutdown => s.shutdown.toNat

/-- The registers `UPDATE_<src>` may change (30_encoding.md R73): the source's own four and the flag it owns. -/
def updateWrites (src : Source) (r : Reg) : Bool :=
  match r with
  | .cur k | .prev k | .ts k | .seen k => k == src
  | .lampShouldBeOn => src == .lamp
  | .isUnlocked => src == .lock
  | .isParked => src == .park
  | _ => false

/-- A button register (30_encoding.md R73, `BUTTON_POLL`). -/
def Reg.isButton : Reg → Bool
  | .rawState | .debouncedState | .previousDebouncedState | .pressedEdge | .releasedEdge | .doubleClickPending
  | .isHeld | .holdDurationMs | .pressCount | .lastPressTime | .lastChangeTime | .hasPrevPress
  | .prevPressWasHold => true
  | _ => false

/-- The column "state written" of 30_encoding.md R73. For `FRAME_IN` ("as the matching `UPDATE_<src>`") it is read with the
identifier on the port. -/
def stateWritten (s : State) (i : Instr) (r : Reg) : Bool :=
  match i with
  | .extract | .set | .decodeLamp | .decodeLock | .decodePark | .decodeBatt | .snapshot | .buttonStatus
  | .mayActivate => false
  | .init => true
  | .updateLamp => updateWrites .lamp r
  | .updateLock => updateWrites .lock r
  | .updatePark => updateWrites .park r
  | .updateBatt => updateWrites .batt r
  | .frameIn =>
    (s.inp.frameId == s.cfg.id.lamp && updateWrites .lamp r) || (s.inp.frameId == s.cfg.id.lock && updateWrites .lock r) ||
    (s.inp.frameId == s.cfg.id.park && updateWrites .park r) || (s.inp.frameId == s.cfg.id.batt && updateWrites .batt r)
  | .recomputeReady => r == .systemReady
  | .touchFreshness => match r with | .ts _ | .seen _ => true | _ => false
  | .buttonPoll => r.isButton
  | .readPressed => r == .pressedEdge
  | .readReleased => r == .releasedEdge
  | .readDouble => r == .doubleClickPending
  | .outputTick => r == .lastApplied .lamp || r == .lastApplied .parkedInd || r == .lastApplied .unlockedInd
  | .toolboxEval => r == .pressedEdge || r == .toolboxActive || r == .toolboxStart || r == .lastApplied .toolbox
  | .toolboxTimer => r == .toolboxActive || r == .lastApplied .toolbox
  | .safeShutdown => match r with | .lastApplied _ | .toolboxActive | .shutdown => true | _ => false

/-- The ports with every port 0 that the column "ports read" of 30_encoding.md R73 does not list for the command. -/
def readPorts (i : Instr) (p : InPorts) : InPorts :=
  match i with
  | .extract =>
    { InPorts.zero with frameData := p.frameData, bfStart := p.bfStart, bfLen := p.bfLen }
  | .set =>
    { InPorts.zero with frameData := p.frameData, bfStart := p.bfStart, bfLen := p.bfLen, bfValue := p.bfValue }
  | .decodeLamp | .decodeLock | .decodePark | .decodeBatt | .frameIn =>
    { InPorts.zero with frameId := p.frameId, frameLen := p.frameLen, frameData := p.frameData, now := p.now }
  | .updateLamp | .updateLock | .updatePark | .updateBatt =>
    { InPorts.zero with
      recValid := p.recValid, recF0 := p.recF0, recF1 := p.recF1, recF2 := p.recF2, recTs := p.recTs }
  | .init | .recomputeReady | .touchFreshness | .toolboxEval | .toolboxTimer => { InPorts.zero with now := p.now }
  | .buttonPoll => { InPorts.zero with now := p.now, btnPressed := p.btnPressed }
  | .mayActivate => { InPorts.zero with predIn := p.predIn }
  | .snapshot | .readPressed | .readReleased | .readDouble | .buttonStatus | .outputTick | .safeShutdown =>
    InPorts.zero

/-- The sentinel is no code that turns a flag on: 42_aggregator.md R135 and R136 assert it ("`lampOn(SENTINEL)` = 0",
"`unlocked(SENTINEL)` = 0"), and 00_scope.md R6 does not imply it (assumption log 9). -/
def sentinelNeutral (c : Config) : Prop :=
  lampOn c (sentinelByte c) = false ∧ unlocked c (sentinelByte c) = false

/-- Every stored time fits the W-bit time base and the press counter its width (10_state.md R23, R37 to R40, R45). -/
structure State.WidthsFit (s : State) : Prop where
  ts : ∀ k, s.veh.ts.get k < 2 ^ s.cfg.W
  holdDurationMs : s.btn.holdDurationMs < 2 ^ s.cfg.W
  lastPressTime : s.btn.lastPressTime < 2 ^ s.cfg.W
  lastChangeTime : s.btn.lastChangeTime < 2 ^ s.cfg.W
  toolboxStart : s.out.toolboxStart < 2 ^ s.cfg.W
  pressCount : s.btn.pressCount < 2 ^ s.cfg.pressCountW

/-- The derived flags are their formulas over `cur` (10_state.md R29). -/
structure State.FlagsPure (s : State) : Prop where
  lamp : s.veh.lampShouldBeOn = lampOn s.cfg s.veh.cur.lamp
  lock : s.veh.isUnlocked = unlocked s.cfg s.veh.cur.lock
  park : s.veh.isParked = parked s.cfg s.veh.cur.park

/-- The output invariants (44_output.md R180, first two). -/
structure State.OutputsSafe (s : State) : Prop where
  toolbox : s.out.lastApplied.toolbox = s.out.toolboxActive
  shutdownOff : s.shutdown = true → s.out.lastApplied = PerActuator.fill false

/-- The button registers are in one of the conceptual states of 43_button.md R160: held only while the committed level is
1, and every committed press has set `hasPrevPress` (10_state.md R41). -/
structure State.ButtonConsistent (s : State) : Prop where
  held : s.btn.isHeld = true → s.btn.debouncedState = true
  down : s.btn.debouncedState = true → s.btn.hasPrevPress = true
  pressed : s.btn.pressedEdge = true → s.btn.hasPrevPress = true
  double : s.btn.doubleClickPending = true → s.btn.hasPrevPress = true

/-- The invariant of the machine. -/
structure State.Inv (s : State) : Prop where
  neutral : sentinelNeutral s.cfg
  widths : s.WidthsFit
  flags : s.FlagsPure
  outputs : s.OutputsSafe
  button : s.ButtonConsistent

/-- The time since which the level `p` sampled at `now` has been stable (43_button.md R151). -/
def changeTimeAt (b : ButtonRegs) (now : Time) (p : Bool) : Time := if p = b.rawState then b.lastChangeTime else now

/-- The level committed by a poll at `now` that samples `p` (43_button.md R151): the sampled one once it has been stable for
at least `DEBOUNCE_MS`, else the one committed before. -/
def levelAt (c : Config) (b : ButtonRegs) (now : Time) (p : Bool) : Bool :=
  if c.debounceMs ≤ elapsed c.W now (changeTimeAt b now p) then p else b.debouncedState

/-- `lastChangeTime` after the poll with the ports of this state. -/
def State.pollChangeTime (s : State) : Time := changeTimeAt s.btn (s.inp.now % 2 ^ s.cfg.W) s.inp.btnPressed

/-- The level committed by the poll with the ports of this state. -/
def State.pollLevel (s : State) : Bool := levelAt s.cfg s.btn (s.inp.now % 2 ^ s.cfg.W) s.inp.btnPressed

/-- The results of a sequence of polls, each at a time with a sampled level, from button registers `b`. -/
def pollTrace (c : Config) (b : ButtonRegs) : List (Time × Bool) → List (ButtonRegs × Bool)
  | [] => []
  | q :: rest => b.poll c q.1 q.2 :: pollTrace c (b.poll c q.1 q.2).1 rest

/-- The button registers after a sequence of polls. -/
def pollEnd (c : Config) (b : ButtonRegs) : List (Time × Bool) → ButtonRegs
  | [] => b
  | q :: rest => pollEnd c (b.poll c q.1 q.2).1 rest

/-- A poll's result shows a committed press edge: the level rose in it. -/
def ButtonRegs.rose (b : ButtonRegs) : Bool := b.debouncedState && !b.previousDebouncedState

/-- A poll's result shows a committed release edge: the level fell in it. -/
def ButtonRegs.fell (b : ButtonRegs) : Bool := !b.debouncedState && b.previousDebouncedState

end Sys2Proof.Machine
end

