-- ==== Sys2Proof/Certificates/Slice0/Obligations.lean ====
section
/-! DEFINITION. The statements for the provers. Each is about every state, or every state that meets hypotheses on the state
and the operands alone; an equation `exec i s = .next { s with … }` says the result, the frame (everything not named is
unchanged) and that the command completes. -/

open Sys2Proof Sys2Proof.Machine

/-! ## The command word -/

/-- R71, R73: one word of every family, written out bit by bit (rsv, fam, mem), decodes to its command. -/
def Obligations.DecoderReadsOpcodeMapWords : Prop :=
  decode 0b00000001#8 = .ok .extract ∧ decode 0b00000011#8 = .ok .init ∧ decode 0b00000101#8 = .ok .decodeLock ∧
  decode 0b00001010#8 = .ok .updatePark ∧ decode 0b00001100#8 = .ok .frameIn ∧ decode 0b00010001#8 = .ok .readPressed ∧
  decode 0b00010100#8 = .ok .buttonStatus ∧ decode 0b00011010#8 = .ok .toolboxTimer ∧
  decode 0b00011100#8 = .ok .safeShutdown

/-- Decoding and encoding agree in both directions: a command's word decodes to it, and no other word does (R71, R73). -/
def Obligations.CommandWordRoundTrip : Prop :=
  (∀ i : Instr, decode (encode i) = .ok i) ∧ ∀ (cmd : Byte) (i : Instr), decode cmd = .ok i → encode i = cmd

/-- A step executes the command the decoder reads from the word on the port, on the state with the operand ports sampled and
the host's entry consumed (R11, R66, R71). -/
def Obligations.StepExecutesDecodedCommand : Prop :=
  ∀ (s : State) (cmd : Byte) (inp : InPorts) (rest : List Event) (i : Instr),
    s.cfg.legal = true → s.resetHeld = false → s.host = .command cmd inp :: rest → decode cmd = .ok i →
      step s = exec i { s with inp := inp, host := rest }

/-- R75, R191: an illegal word answers `rsp.err` = 1 with every other field 0, no write and no register changed. -/
def Obligations.IllegalWordRaisesIllegalCommand : Prop :=
  ∀ (s : State) (cmd : Byte) (inp : InPorts) (rest : List Event),
    s.cfg.legal = true → s.resetHeld = false → s.host = .command cmd inp :: rest →
    (cmd.extractLsb' 5 3 ≠ 0 ∨ cmd.extractLsb' 0 5 ∈ ([0x00, 0x15, 0x16, 0x17, 0x1D, 0x1E, 0x1F] : List (BitVec 5))) →
      step s = .next { s with
        inp := inp, host := rest, rsp := some { Response.zero with err := true }, writes := [] }

/-- R6, with R84 for the battery field: a step is refused when a clause of R6 fails, or `BATT_LEN` = 8 stands with an `SB_BATT`
other than 23 (the refusal of the latter is deduced: log 16). That it is refused for no other reason is the model's choice: it
accepts a sentinel that is a lamp-on or unlock code (against R135 and R136: log 9), `MAX_PARK` > 255 (against R81: log 15), and a
changed `SB_LOCK` with lock codes that do not match it (against R88: log 17). -/
def Obligations.IllegalConfigurationRefused : Prop :=
  ∀ s : State, step s = .refused .illegalConfig ↔
    ¬ (1 ≤ s.cfg.W ∧
      (∀ x ∈ [s.cfg.debounceMs, s.cfg.doubleClickMs, s.cfg.holdMs, s.cfg.toolboxMs], x < 2 ^ s.cfg.W) ∧
      (∀ k : Source, s.cfg.readyTimeoutMs.get k < 2 ^ s.cfg.W) ∧
      (∀ j k : Source, j ≠ k → s.cfg.id.get j ≠ s.cfg.id.get k) ∧
      (∀ p ∈ [s.cfg.sigPudLamp, s.cfg.sigIllum, s.cfg.sigCourtesy, s.cfg.sigLock, s.cfg.sigPark, s.cfg.sigBatt],
        1 ≤ p.len ∧ p.len ≤ 16 ∧ p.start ≤ 63 ∧ p.len ≤ p.start + 1) ∧
      (s.cfg.sigBatt.len = 7 ∨ (s.cfg.sigBatt.len = 8 ∧ s.cfg.sigBatt.start = 23)) ∧
      (s.cfg.maxLamp < s.cfg.sentinel ∧ s.cfg.maxLock < s.cfg.sentinel ∧ s.cfg.battMax < s.cfg.sentinel ∧
        s.cfg.sentinel ≤ 0xFF) ∧
      s.cfg.codePark.toNat ≤ s.cfg.maxPark)

/-- R200, R205: the block never stops: with a legal configuration every step answers a next state. -/
def Obligations.LegalBlockNeverStops : Prop :=
  ∀ s : State, s.cfg.legal = true → ∃ t, step s = .next t

/-- R5: no step changes the configuration. -/
def Obligations.NoStepChangesConfiguration : Prop :=
  ∀ s t : State, step s = .next t → t.cfg = s.cfg

/-- R192: with `cmd_valid` = 0 no register changes, no response is produced and no write is emitted; only the host's entry is
consumed. -/
def Obligations.IdleHoldsEveryRegister : Prop :=
  ∀ (s : State) (rest : List Event), s.cfg.legal = true → s.host = .idle :: rest →
    step s = .next { s with host := rest, rsp := none, writes := [] } ∧
    ∀ t, step s = .next t → ∀ a, t.actLevel a = s.out.lastApplied.get a ∧ t.actWr a = false

/-- A host that presents nothing at all is an idle host: the model's choice (log 3), with the effect R192 gives
`cmd_valid` = 0. -/
def Obligations.EmptyHostIsIdle : Prop :=
  ∀ s : State, s.cfg.legal = true → s.host = [] → step s = .next { s with rsp := none, writes := [] }

/-! ## Reset -/

/-- R47, R220, by the level the reset input takes and the level it had. Released after it was asserted: every register takes its
reset value, with `t0` = `now`. Asserted (again): from then on the block accepts no command. Released when it was not asserted:
nothing. No response and no write in any case. A command presented while the input is asserted is not accepted. That every
register holds its value from the assertion to the release, that a release without an assertion is no reset, and that a
command presented meanwhile is consumed unanswered are the model's choices (log 5). -/
def Obligations.HardwareResetLoadsResetValues : Prop :=
  ∀ (s : State) (now : Time) (cmd : Byte) (inp : InPorts) (rest : List Event), s.cfg.legal = true →
    (s.resetHeld = true → s.host = .resetInput false now :: rest → step s = .next { s with
      host := rest, rsp := none, writes := [], resetHeld := false, shutdown := false
      veh :=
        { cur := ⟨BitVec.ofNat 8 s.cfg.sentinel, BitVec.ofNat 8 s.cfg.sentinel, s.cfg.codePark, BitVec.ofNat 8 s.cfg.sentinel⟩
          prev := ⟨BitVec.ofNat 8 s.cfg.sentinel, BitVec.ofNat 8 s.cfg.sentinel, BitVec.ofNat 8 s.cfg.sentinel,
            BitVec.ofNat 8 s.cfg.sentinel⟩
          ts := ⟨0, 0, 0, 0⟩, seen := ⟨false, false, false, false⟩
          isUnlocked := false, isParked := true, lampShouldBeOn := false, systemReady := false }
      btn :=
        { rawState := false, debouncedState := false, previousDebouncedState := false, pressedEdge := false
          releasedEdge := false, doubleClickPending := false, isHeld := false, holdDurationMs := 0, pressCount := 0
          lastPressTime := 0, lastChangeTime := now % 2 ^ s.cfg.W, hasPrevPress := false, prevPressWasHold := false }
      out := { lastApplied := ⟨false, false, false, false⟩, toolboxActive := false, toolboxStart := 0 } }) ∧
    (s.host = .resetInput true now :: rest → step s = .next { s with
      host := rest, rsp := none, writes := [], resetHeld := true }) ∧
    (s.resetHeld = false → s.host = .resetInput false now :: rest → step s = .next { s with
      host := rest, rsp := none, writes := [] }) ∧
    (s.resetHeld = true → s.host = .command cmd inp :: rest → step s = .next { s with
      host := rest, rsp := none, writes := [] })

/-- R47 at `State.reset` (the default configuration, `t0` = 0, which is the model's choice: log 6): the register values of
R47's table. -/
def Obligations.ResetStateHoldsTableValues : Prop :=
  State.reset.veh.cur = ⟨0xFF, 0xFF, State.reset.cfg.codePark, 0xFF⟩ ∧ State.reset.veh.prev = ⟨0xFF, 0xFF, 0xFF, 0xFF⟩ ∧
  (∀ r : Reg, (∀ k, r ≠ .cur k) → (∀ k, r ≠ .prev k) → r ≠ .isParked → State.reset.reg r = 0) ∧
  State.reset.veh.isParked = true

/-- R190: `INIT` makes the four off-writes and leaves the reset state with `t0` = `now`. -/
def Obligations.InitRestoresResetState : Prop :=
  ∀ s : State, exec .init s = .next { s with
    rsp := some Response.zero
    writes := [⟨.lamp, false⟩, ⟨.toolbox, false⟩, ⟨.parkedInd, false⟩, ⟨.unlockedInd, false⟩]
    shutdown := false
    veh :=
      { cur := ⟨BitVec.ofNat 8 s.cfg.sentinel, BitVec.ofNat 8 s.cfg.sentinel, s.cfg.codePark, BitVec.ofNat 8 s.cfg.sentinel⟩
        prev := ⟨BitVec.ofNat 8 s.cfg.sentinel, BitVec.ofNat 8 s.cfg.sentinel, BitVec.ofNat 8 s.cfg.sentinel,
          BitVec.ofNat 8 s.cfg.sentinel⟩
        ts := ⟨0, 0, 0, 0⟩, seen := ⟨false, false, false, false⟩
        isUnlocked := false, isParked := true, lampShouldBeOn := false, systemReady := false }
    btn :=
      { rawState := false, debouncedState := false, previousDebouncedState := false, pressedEdge := false
        releasedEdge := false, doubleClickPending := false, isHeld := false, holdDurationMs := 0, pressCount := 0
        lastPressTime := 0, lastChangeTime := s.inp.now % 2 ^ s.cfg.W, hasPrevPress := false, prevPressWasHold := false }
    out := { lastApplied := ⟨false, false, false, false⟩, toolboxActive := false, toolboxStart := 0 } }

/-! ## Codec -/

/-- R52: byte `i` of the 64-bit view is `data[i]`, and a byte-wise write is read back where it was made. -/
def Obligations.FrameViewIsLittleEndian : Prop :=
  (∀ (data : Vector Byte 8) (i : Nat) (h : i < 8), frameByte (raw64 data) i = data[i]) ∧
  (∀ (raw v : FrameData) (a n : Nat), a + n ≤ 8 →
    (memRead raw a n).toNat = raw.toNat / 2 ^ (8 * a) % 2 ^ (8 * n) ∧
    (memRead (memWrite raw a n v) a n).toNat = v.toNat % 2 ^ (8 * n) ∧
    ∀ i, i < 8 → (i < a ∨ a + n ≤ i) → frameByte (memWrite raw a n v) i = frameByte raw i)

/-- R100, R101: `EXTRACT` returns bits `sb` down to `sb - len + 1`, zero-extended, and 0 outside the precondition, for
every operand. -/
def Obligations.ExtractReturnsField : Prop :=
  ∀ s : State, exec .extract s = .next { s with
    rsp := some { Response.zero with
      value :=
        if 1 ≤ s.inp.bfLen.toNat ∧ s.inp.bfLen.toNat ≤ 16 ∧ s.inp.bfStart.toNat ≤ 63 ∧
            s.inp.bfLen.toNat ≤ s.inp.bfStart.toNat + 1 then
          BitVec.ofNat 32 (fieldValue s.inp.frameData s.inp.bfStart.toNat s.inp.bfLen.toNat)
        else 0 }
    writes := [] }

/-- R103, bit by bit: `SET` puts the value's low `len` bits into the span and keeps every other bit; outside the
precondition it keeps every bit. -/
def Obligations.SetReplacesField : Prop :=
  ∀ s : State, ∃ d : FrameData,
    exec .set s = .next { s with rsp := some { Response.zero with data := d }, writes := [] } ∧
    ∀ n < 64, d.getLsbD n =
      if 1 ≤ s.inp.bfLen.toNat ∧ s.inp.bfLen.toNat ≤ 16 ∧ s.inp.bfStart.toNat ≤ 63 ∧
          s.inp.bfLen.toNat ≤ s.inp.bfStart.toNat + 1 ∧
          s.inp.bfStart.toNat + 1 - s.inp.bfLen.toNat ≤ n ∧ n ≤ s.inp.bfStart.toNat then
        s.inp.bfValue.getLsbD (n - (s.inp.bfStart.toNat + 1 - s.inp.bfLen.toNat))
      else s.inp.frameData.getLsbD n

/-- R104: `SET`, then `EXTRACT` of its result at the same place, gives the value's low `len` bits. -/
def Obligations.SetThenExtractReturnsValue : Prop :=
  ∀ s : State, 1 ≤ s.inp.bfLen.toNat → s.inp.bfLen.toNat ≤ 16 → s.inp.bfStart.toNat ≤ 63 →
    s.inp.bfLen.toNat ≤ s.inp.bfStart.toNat + 1 →
    ∃ d : FrameData,
      exec .set s = .next { s with rsp := some { Response.zero with data := d }, writes := [] } ∧
      exec .extract { s with inp := { s.inp with frameData := d } } = .next { s with
        inp := { s.inp with frameData := d }
        rsp := some { Response.zero with value := BitVec.ofNat 32 (s.inp.bfValue.toNat % 2 ^ s.inp.bfLen.toNat) }
        writes := [] }

/-- R106, R118: the codec, decode and gate commands read no register and change none: their responses are the same in any
two states with the same ports and configuration. -/
def Obligations.CodecAndDecodersReadNoRegister : Prop :=
  ∀ i ∈ [Instr.extract, .set, .decodeLamp, .decodeLock, .decodePark, .decodeBatt, .mayActivate],
    ∀ s s' : State, s.inp = s'.inp → s.cfg = s'.cfg →
      ∃ r, exec i s = .next { s with rsp := some r, writes := [] } ∧
        exec i s' = .next { s' with rsp := some r, writes := [] }

/-! ## Decoders -/

/-- R110, R112 to R114 (the numeric fields of a mismatched record are left out, as 93_implementation_defined.md U1 asks):
the lock, park and battery decoders. -/
def Obligations.SingleSignalDecodersReturnRecord : Prop :=
  ∀ (s : State) (i : Instr) (id : Word) (p : SigPos) (limit : Nat), s.cfg.legal = true →
    (i, id, p, limit) ∈ [(Instr.decodeLock, s.cfg.id.lock, s.cfg.sigLock, s.cfg.maxLock),
      (.decodePark, s.cfg.id.park, s.cfg.sigPark, s.cfg.maxPark),
      (.decodeBatt, s.cfg.id.batt, s.cfg.sigBatt, s.cfg.battMax)] →
    ∃ r : Record,
      exec i s = .next { s with rsp := some { Response.zero with record := r }, writes := [] } ∧
      r.ts = s.inp.now % 2 ^ s.cfg.W ∧
      (s.inp.frameId ≠ id ∨ s.inp.frameLen ≠ 8 → r.valid = false) ∧
      (s.inp.frameId = id → s.inp.frameLen = 8 →
        r.valid = decide (fieldValue s.inp.frameData p.start p.len ≤ limit) ∧
        r.f0 = BitVec.ofNat 16 (fieldValue s.inp.frameData p.start p.len) ∧ r.f1 = 0 ∧ r.f2 = 0)

/-- R110, R111: the lamp decoder and its three signals; the record is invalid if any one exceeds its limit. -/
def Obligations.LampDecoderReturnsRecord : Prop :=
  ∀ s : State, s.cfg.legal = true →
    ∃ r : Record,
      exec .decodeLamp s = .next { s with rsp := some { Response.zero with record := r }, writes := [] } ∧
      r.ts = s.inp.now % 2 ^ s.cfg.W ∧
      (s.inp.frameId ≠ s.cfg.id.lamp ∨ s.inp.frameLen ≠ 8 → r.valid = false) ∧
      (s.inp.frameId = s.cfg.id.lamp → s.inp.frameLen = 8 →
        (r.valid = true ↔
          fieldValue s.inp.frameData s.cfg.sigPudLamp.start s.cfg.sigPudLamp.len ≤ s.cfg.maxLamp ∧
          fieldValue s.inp.frameData s.cfg.sigIllum.start s.cfg.sigIllum.len ≤ s.cfg.maxIllum ∧
          fieldValue s.inp.frameData s.cfg.sigCourtesy.start s.cfg.sigCourtesy.len ≤ s.cfg.maxCourtesy) ∧
        r.f0 = BitVec.ofNat 16 (fieldValue s.inp.frameData s.cfg.sigPudLamp.start s.cfg.sigPudLamp.len) ∧
        r.f1 = BitVec.ofNat 16 (fieldValue s.inp.frameData s.cfg.sigIllum.start s.cfg.sigIllum.len) ∧
        r.f2 = BitVec.ofNat 16 (fieldValue s.inp.frameData s.cfg.sigCourtesy.start s.cfg.sigCourtesy.len))

/-- R115: an unmonitored identifier changes nothing and reports `matched` = 0; a monitored one is decoded by its source's
decoder, reported, and passed to its source's update. -/
def Obligations.FrameInDecodesAndUpdates : Prop :=
  ∀ s : State, s.cfg.legal = true →
    ((∀ k : Source, s.inp.frameId ≠ s.cfg.id.get k) →
      exec .frameIn s = .next { s with rsp := some Response.zero, writes := [] }) ∧
    (∀ k : Source, s.inp.frameId = s.cfg.id.get k →
      exec .frameIn s = .next { s with
        rsp := some { Response.zero with
          matched := true, src := k.num
          record := decodeRecord s.cfg k s.inp.frameId s.inp.frameLen s.inp.frameData (s.inp.now % 2 ^ s.cfg.W) }
        writes := []
        veh := s.veh.update s.cfg k
          (decodeRecord s.cfg k s.inp.frameId s.inp.frameLen s.inp.frameData (s.inp.now % 2 ^ s.cfg.W)) })

/-- R92: `DECUPD_<SRC>` leaves the registers `FRAME_IN` of the same frame leaves. -/
def Obligations.DecodeThenUpdateEqualsFrameIn : Prop :=
  ∀ (s : State) (k : Source) (f : Frame) (t : Time), s.cfg.legal = true → f.id = s.cfg.id.get k →
    ∃ (t1 : State) (r : Response) (t2 t3 : State),
      exec (decodeInstr k) { s with inp := (decupdDecode k f t).ports } = .next t1 ∧ t1.rsp = some r ∧
      exec (updateInstr k) { t1 with inp := (decupdUpdate k r.record).ports } = .next t2 ∧
      exec .frameIn { s with inp := (frameInLine f t).ports } = .next t3 ∧
      t2.veh = t3.veh ∧ t2.btn = t3.btn ∧ t2.out = t3.out ∧ t2.shutdown = t3.shutdown

/-! ## Vehicle state -/

/-- R130 to R137: each update stores a valid record and recomputes the one flag its source owns; an invalid record changes
no register. -/
def Obligations.UpdateStoresRecordAndOwnedFlag : Prop :=
  ∀ s : State,
    (∀ i ∈ [Instr.updateLamp, .updateLock, .updatePark, .updateBatt], s.inp.recValid = false →
      exec i s = .next { s with rsp := some Response.zero, writes := [] }) ∧
    (s.inp.recValid = true →
      exec .updateLamp s = .next { s with
        rsp := some Response.zero, writes := []
        veh := { s.veh with
          prev := { s.veh.prev with lamp := s.veh.cur.lamp }
          cur := { s.veh.cur with lamp := s.inp.recF0.setWidth 8 }
          ts := { s.veh.ts with lamp := s.inp.recTs % 2 ^ s.cfg.W }
          seen := { s.veh.seen with lamp := true }
          lampShouldBeOn := decide (s.inp.recF0.setWidth 8 = s.cfg.codeOn ∨ s.inp.recF0.setWidth 8 = s.cfg.codeRampUp) } } ∧
      exec .updateLock s = .next { s with
        rsp := some Response.zero, writes := []
        veh := { s.veh with
          prev := { s.veh.prev with lock := s.veh.cur.lock }
          cur := { s.veh.cur with lock := s.inp.recF0.setWidth 8 }
          ts := { s.veh.ts with lock := s.inp.recTs % 2 ^ s.cfg.W }
          seen := { s.veh.seen with lock := true }
          isUnlocked :=
            decide (s.inp.recF0.setWidth 8 = s.cfg.codeUnlockAll ∨ s.inp.recF0.setWidth 8 = s.cfg.codeUnlockDrv) } } ∧
      exec .updatePark s = .next { s with
        rsp := some Response.zero, writes := []
        veh := { s.veh with
          prev := { s.veh.prev with park := s.veh.cur.park }
          cur := { s.veh.cur with park := s.inp.recF0.setWidth 8 }
          ts := { s.veh.ts with park := s.inp.recTs % 2 ^ s.cfg.W }
          seen := { s.veh.seen with park := true }
          isParked := decide (s.inp.recF0.setWidth 8 = s.cfg.codePark) } } ∧
      exec .updateBatt s = .next { s with
        rsp := some Response.zero, writes := []
        veh := { s.veh with
          prev := { s.veh.prev with batt := s.veh.cur.batt }
          cur := { s.veh.cur with batt := s.inp.recF0.setWidth 8 }
          ts := { s.veh.ts with batt := s.inp.recTs % 2 ^ s.cfg.W }
          seen := { s.veh.seen with batt := true } } })

/-- R138, R139: `RECOMPUTE_READY` writes and returns readiness: under `ANY` some source, under `ALL` every source, is seen
with an elapsed time strictly below its timeout. -/
def Obligations.RecomputeReadyFollowsPolicy : Prop :=
  ∀ s : State, ∃ r : Bool,
    exec .recomputeReady s = .next { s with
      rsp := some { Response.zero with value := if r then 1 else 0 }
      writes := []
      veh := { s.veh with systemReady := r } } ∧
    (s.cfg.readyPolicy = .any → (r = true ↔ ∃ k : Source, s.veh.seen.get k = true ∧
      elapsed s.cfg.W s.inp.now (s.veh.ts.get k) < s.cfg.readyTimeoutMs.get k)) ∧
    (s.cfg.readyPolicy = .all → (r = true ↔ ∀ k : Source, s.veh.seen.get k = true ∧
      elapsed s.cfg.W s.inp.now (s.veh.ts.get k) < s.cfg.readyTimeoutMs.get k))

/-- R140, for timeouts from 1 to 2^W - 2 (outside them the law fails by wrap; log 11): ready at timeout - 1, not at the
timeout nor at timeout + 1, also across the wrap. -/
def Obligations.ReadinessEndsAtTimeout : Prop :=
  ∀ (s : State) (k : Source) (d : Nat), s.cfg.readyPolicy = .any → s.veh.seen.get k = true →
    1 ≤ s.cfg.readyTimeoutMs.get k → s.cfg.readyTimeoutMs.get k + 1 < 2 ^ s.cfg.W →
    d ∈ [s.cfg.readyTimeoutMs.get k - 1, s.cfg.readyTimeoutMs.get k, s.cfg.readyTimeoutMs.get k + 1] →
    s.inp.now = (s.veh.ts.get k + d) % 2 ^ s.cfg.W →
    (∀ j : Source, j ≠ k → ¬ (s.veh.seen.get j = true ∧
      elapsed s.cfg.W s.inp.now (s.veh.ts.get j) < s.cfg.readyTimeoutMs.get j)) →
    ∃ t, exec .recomputeReady s = .next t ∧ t.veh.systemReady = decide (d = s.cfg.readyTimeoutMs.get k - 1)

/-- R141: every timestamp becomes `now`, every `seen` bit 1; no flag and no raw value changes. -/
def Obligations.TouchFreshnessMarksEverySource : Prop :=
  ∀ s : State, exec .touchFreshness s = .next { s with
    rsp := some Response.zero, writes := []
    veh := { s.veh with
      ts := ⟨s.inp.now % 2 ^ s.cfg.W, s.inp.now % 2 ^ s.cfg.W, s.inp.now % 2 ^ s.cfg.W, s.inp.now % 2 ^ s.cfg.W⟩
      seen := ⟨true, true, true, true⟩ } }

/-- R142, R159: `SNAPSHOT` and `BUTTON_STATUS` return copies of the registers and change none. -/
def Obligations.StatusReadsCopyRegisters : Prop :=
  ∀ s : State,
    exec .snapshot s = .next { s with
      rsp := some { Response.zero with snap := .vehicle s.veh s.out s.shutdown }, writes := [] } ∧
    exec .buttonStatus s = .next { s with
      rsp := some { Response.zero with
        snap := .button
          { rawState := s.btn.rawState, debouncedState := s.btn.debouncedState
            previousDebouncedState := s.btn.previousDebouncedState, isHeld := s.btn.isHeld
            holdDurationMs := s.btn.holdDurationMs, pressCount := s.btn.pressCount
            lastPressTime := s.btn.lastPressTime, lastChangeTime := s.btn.lastChangeTime
            hasPrevPress := s.btn.hasPrevPress, prevPressWasHold := s.btn.prevPressWasHold } }
      writes := [] }

/-! ## Button -/

/-- R151: every poll completes; it samples the level, keeps the previous committed one, restarts the stability time on a
change, and commits a level stable for at least `DEBOUNCE_MS`. It changes no register outside the button group. -/
def Obligations.PollDebouncesSample : Prop :=
  ∀ s : State, ∃ (b : ButtonRegs) (h : Bool),
    exec .buttonPoll s = .next { s with btn := b, rsp := some { Response.zero with heldEv := h }, writes := [] } ∧
    b.previousDebouncedState = s.btn.debouncedState ∧
    b.rawState = s.inp.btnPressed ∧
    b.lastChangeTime =
      (if s.inp.btnPressed = s.btn.rawState then s.btn.lastChangeTime else s.inp.now % 2 ^ s.cfg.W) ∧
    b.debouncedState =
      (if s.inp.btnPressed ≠ s.btn.debouncedState ∧ s.cfg.debounceMs ≤ elapsed s.cfg.W s.inp.now b.lastChangeTime
        then s.inp.btnPressed else s.btn.debouncedState)

/-- R152: a poll that commits a press. -/
def Obligations.PollPressEdge : Prop :=
  ∀ s : State, s.btn.debouncedState = false → s.pollLevel = true →
    exec .buttonPoll s = .next { s with
      rsp := some Response.zero, writes := []
      btn := { s.btn with
        rawState := s.inp.btnPressed, debouncedState := true, previousDebouncedState := false
        lastChangeTime := s.pollChangeTime
        pressedEdge := true
        pressCount := (s.btn.pressCount + 1) % 2 ^ s.cfg.pressCountW
        doubleClickPending := decide (s.btn.doubleClickPending = true ∨ (s.btn.hasPrevPress = true ∧
          elapsed s.cfg.W s.inp.now s.btn.lastPressTime < s.cfg.doubleClickMs ∧ s.btn.prevPressWasHold = false))
        lastPressTime := s.inp.now % 2 ^ s.cfg.W
        hasPrevPress := true
        isHeld := false
        holdDurationMs := 0 } }

/-- R153: a poll that commits a release. -/
def Obligations.PollReleaseEdge : Prop :=
  ∀ s : State, s.btn.debouncedState = true → s.pollLevel = false →
    exec .buttonPoll s = .next { s with
      rsp := some Response.zero, writes := []
      btn := { s.btn with
        rawState := s.inp.btnPressed, debouncedState := false, previousDebouncedState := true
        lastChangeTime := s.pollChangeTime
        releasedEdge := true
        prevPressWasHold := s.btn.isHeld
        holdDurationMs := elapsed s.cfg.W s.inp.now s.btn.lastPressTime
        isHeld := false } }

/-- R154 in a poll whose committed level was 1 and stays 1 (a poll that commits a press is `PollPressEdge`): the duration,
the hold, and the one-poll observation. -/
def Obligations.PollHoldStep : Prop :=
  ∀ s : State, s.btn.debouncedState = true → s.pollLevel = true →
    exec .buttonPoll s = .next { s with
      rsp := some { Response.zero with
        heldEv :=
        decide (s.cfg.holdMs < elapsed s.cfg.W s.inp.now s.btn.lastPressTime ∧ s.btn.isHeld = false) }
      writes := []
      btn := { s.btn with
        rawState := s.inp.btnPressed, previousDebouncedState := true, lastChangeTime := s.pollChangeTime
        holdDurationMs := elapsed s.cfg.W s.inp.now s.btn.lastPressTime
        isHeld := decide (s.btn.isHeld = true ∨ s.cfg.holdMs < elapsed s.cfg.W s.inp.now s.btn.lastPressTime) } }

/-- R150, R151: a poll whose committed level was 0 and stays 0 only samples. -/
def Obligations.PollWhileReleased : Prop :=
  ∀ s : State, s.btn.debouncedState = false → s.pollLevel = false →
    exec .buttonPoll s = .next { s with
      rsp := some Response.zero, writes := []
      btn := { s.btn with
        rawState := s.inp.btnPressed, previousDebouncedState := false, lastChangeTime := s.pollChangeTime } }

/-- R161: after a change sampled at `t0`, polls of the same level within `DEBOUNCE_MS` of `t0` commit nothing; the first
poll of it at least `DEBOUNCE_MS` after `t0` commits it and sets the edge; a poll of the other level instead commits
nothing, whenever it comes. -/
def Obligations.DebounceCommitsStableLevelOnly : Prop :=
  ∀ (c : Config) (b : ButtonRegs) (p : Bool) (t0 t : Time) (times : List Time),
    p ≠ b.rawState → p ≠ b.debouncedState → 0 < c.debounceMs →
    (∀ q ∈ times, elapsed c.W q t0 < c.debounceMs) →
    let e := pollEnd c b ((t0, p) :: times.map fun q => (q, p))
    (e.debouncedState = b.debouncedState ∧ e.pressedEdge = b.pressedEdge ∧ e.releasedEdge = b.releasedEdge ∧
      e.pressCount = b.pressCount) ∧
    (c.debounceMs ≤ elapsed c.W t t0 →
      (e.poll c t p).1.debouncedState = p ∧
      (p = true → (e.poll c t p).1.pressedEdge = true) ∧ (p = false → (e.poll c t p).1.releasedEdge = true)) ∧
    ((e.poll c t (!p)).1.debouncedState = b.debouncedState ∧ (e.poll c t (!p)).1.pressedEdge = b.pressedEdge ∧
      (e.poll c t (!p)).1.releasedEdge = b.releasedEdge ∧ (e.poll c t (!p)).1.pressCount = b.pressCount)

/-- R155: from a committed press that is not held yet, through any polls without another press edge, the next press edge at
`t2` sets `doubleClickPending` exactly when it is strictly within the window and none of those polls reported a hold. -/
def Obligations.DoubleClickNeedsShortUnheldPress : Prop :=
  ∀ (c : Config) (b : ButtonRegs) (polls : List (Time × Bool)) (t2 : Time) (p : Bool),
    b.debouncedState = true → b.hasPrevPress = true → b.isHeld = false →
    (∀ r ∈ pollTrace c b polls, r.1.rose = false) →
    ((pollEnd c b polls).poll c t2 p).1.rose = true →
    (((pollEnd c b polls).poll c t2 p).1.doubleClickPending = true ↔
      (pollEnd c b polls).doubleClickPending = true ∨
      (elapsed c.W t2 b.lastPressTime < c.doubleClickMs ∧ ∀ r ∈ pollTrace c b polls, r.2 = false))

/-- R60, R156 to R158: each read returns its edge flag and leaves it 0. -/
def Obligations.EdgeReadsReturnAndClear : Prop :=
  ∀ s : State,
    exec .readPressed s = .next { s with
      rsp := some { Response.zero with value := if s.btn.pressedEdge then 1 else 0 }, writes := []
      btn := { s.btn with pressedEdge := false } } ∧
    exec .readReleased s = .next { s with
      rsp := some { Response.zero with value := if s.btn.releasedEdge then 1 else 0 }, writes := []
      btn := { s.btn with releasedEdge := false } } ∧
    exec .readDouble s = .next { s with
      rsp := some { Response.zero with value := if s.btn.doubleClickPending then 1 else 0 }, writes := []
      btn := { s.btn with doubleClickPending := false } }

/-! ## Output -/

/-- R82, R170, R171: the gate is 1 only for `pred_in` = 0b111. -/
def Obligations.GateOpensOnlyForAllThree : Prop :=
  ∀ s : State, exec .mayActivate s = .next { s with
    rsp := some { Response.zero with value := if s.inp.predIn = 0b111#3 then 1 else 0 }, writes := [] }

/-- R172, R173: suppressed in Shutdown mode; in Normal mode `OUTPUT_TICK` drives the three state-driven actuators to their
targets, off when not ready, writing exactly those that differ from the last-applied level, in ascending number; `TOOLBOX` is
never written. -/
def Obligations.OutputTickAppliesTargetsOnChange : Prop :=
  ∀ s : State,
    (s.shutdown = true →
      exec .outputTick s = .next { s with rsp := some { Response.zero with shut := true }, writes := [] }) ∧
    (s.shutdown = false →
      exec .outputTick s = .next { s with
        rsp := some Response.zero
        out := { s.out with lastApplied := { s.out.lastApplied with
          lamp := s.veh.systemReady && s.veh.lampShouldBeOn
          parkedInd := s.veh.systemReady && s.veh.isParked
          unlockedInd := s.veh.systemReady && s.veh.isUnlocked } }
        writes :=
          [(⟨.lamp, s.veh.systemReady && s.veh.lampShouldBeOn⟩ : WriteEvent),
           ⟨.parkedInd, s.veh.systemReady && s.veh.isParked⟩,
           ⟨.unlockedInd, s.veh.systemReady && s.veh.isUnlocked⟩].filter
            fun e => e.level != s.out.lastApplied.get e.actuator })

/-- R174: not ready and in Normal mode, `OUTPUT_TICK` leaves the three state-driven actuators off, whatever the flags hold. -/
def Obligations.StaleDataForcesOutputsOff : Prop :=
  ∀ s : State, s.veh.systemReady = false → s.shutdown = false →
    ∃ t, exec .outputTick s = .next t ∧ t.out.lastApplied.lamp = false ∧ t.out.lastApplied.parkedInd = false ∧
      t.out.lastApplied.unlockedInd = false

/-- R175: suppressed in Shutdown mode; in Normal mode `TOOLBOX_EVAL` consumes the press edge, returns `go`, and starts the
pulse when `go` and the toolbox is inactive. -/
def Obligations.ToolboxEvalStartsPulse : Prop :=
  ∀ s : State,
    (s.shutdown = true →
      exec .toolboxEval s = .next { s with rsp := some { Response.zero with shut := true }, writes := [] }) ∧
    (s.shutdown = false →
      let go := s.btn.pressedEdge && s.veh.systemReady && s.veh.isParked && s.veh.isUnlocked
      exec .toolboxEval s = .next { s with
        rsp := some { Response.zero with value := if go then 1 else 0 }
        btn := { s.btn with pressedEdge := false }
        writes := if go && !s.out.toolboxActive then [⟨.toolbox, true⟩] else []
        out := if go && !s.out.toolboxActive then
            { lastApplied := { s.out.lastApplied with toolbox := true }
              toolboxActive := true, toolboxStart := s.inp.now % 2 ^ s.cfg.W }
          else s.out })

/-- R176: suppressed in Shutdown mode; in Normal mode `TOOLBOX_TIMER` ends an active pulse once the elapsed time has reached
`TOOLBOX_MS`, and changes nothing otherwise. -/
def Obligations.ToolboxTimerEndsPulse : Prop :=
  ∀ s : State,
    (s.shutdown = true →
      exec .toolboxTimer s = .next { s with rsp := some { Response.zero with shut := true }, writes := [] }) ∧
    (s.shutdown = false →
      exec .toolboxTimer s = .next
        (if s.out.toolboxActive = true ∧ s.cfg.toolboxMs ≤ elapsed s.cfg.W s.inp.now s.out.toolboxStart then
          { s with
            rsp := some Response.zero, writes := [⟨.toolbox, false⟩]
            out := { s.out with lastApplied := { s.out.lastApplied with toolbox := false }, toolboxActive := false } }
        else { s with rsp := some Response.zero, writes := [] }))

/-- R177: a pulse that starts at `t` is still on at `t + TOOLBOX_MS - 1` and ends at `t + TOOLBOX_MS`, also across the wrap
(for 1 ≤ `TOOLBOX_MS` < 2^W; log 11). -/
def Obligations.PulseLastsToolboxTime : Prop :=
  ∀ s : State, s.shutdown = false → s.out.toolboxActive = true → 1 ≤ s.cfg.toolboxMs → s.cfg.toolboxMs < 2 ^ s.cfg.W →
    (s.inp.now = (s.out.toolboxStart + s.cfg.toolboxMs - 1) % 2 ^ s.cfg.W →
      ∃ t, exec .toolboxTimer s = .next t ∧ t.out = s.out) ∧
    (s.inp.now = (s.out.toolboxStart + s.cfg.toolboxMs) % 2 ^ s.cfg.W →
      ∃ t, exec .toolboxTimer s = .next t ∧ t.out.toolboxActive = false ∧ t.out.lastApplied.toolbox = false)

/-- R178: `SAFE_SHUTDOWN` makes the four off-writes whatever was applied, ends the pulse and enters Shutdown. -/
def Obligations.SafeShutdownForcesAllOff : Prop :=
  ∀ s : State, exec .safeShutdown s = .next { s with
    rsp := some Response.zero
    writes := [⟨.lamp, false⟩, ⟨.toolbox, false⟩, ⟨.parkedInd, false⟩, ⟨.unlockedInd, false⟩]
    out := { s.out with lastApplied := ⟨false, false, false, false⟩, toolboxActive := false }
    shutdown := true }

/-- R179: in Shutdown mode the three actuator-driving commands change no register, emit no write and answer `shut`; every
other command leaves what it leaves in Normal mode, and of the commands only `INIT` clears the mode. -/
def Obligations.ShutdownSuppressesActuatorCommands : Prop :=
  ∀ (i : Instr) (s : State), s.shutdown = true →
    (i ∈ [Instr.outputTick, .toolboxEval, .toolboxTimer] →
      exec i s = .next { s with rsp := some { Response.zero with shut := true }, writes := [] }) ∧
    (i ∉ [Instr.outputTick, .toolboxEval, .toolboxTimer] →
      ∃ t t', exec i s = .next t ∧ exec i { s with shutdown := false } = .next t' ∧
        t.veh = t'.veh ∧ t.btn = t'.btn ∧ t.out = t'.out ∧ t.writes = t'.writes ∧
        (i ≠ .snapshot → t.rsp = t'.rsp) ∧ (t.shutdown = false ↔ i = .init))

/-! ## The whole machine -/

/-- R46, R207, R220: a step enters Shutdown only by a `SAFE_SHUTDOWN` word, and leaves it only by an `INIT` word or by hardware
reset. That a reset leaves it at the release of an asserted input, and not at its assertion, is the model's choice (log 5). -/
def Obligations.ModeChangesOnlyByItsCommands : Prop :=
  ∀ s t : State, step s = .next t →
    (s.shutdown = false → t.shutdown = true → ∃ inp rest, s.host = .command 0x1C#8 inp :: rest) ∧
    (s.shutdown = true → t.shutdown = false →
      (∃ inp rest, s.host = .command 0x03#8 inp :: rest) ∨
      (∃ now rest, s.resetHeld = true ∧ s.host = .resetInput false now :: rest))

/-- R60, R162: an edge flag once set is cleared only by the reads R60 names for it, by `INIT` (R190) or by hardware reset (R220);
`TOOLBOX_EVAL` clears the press edge in Normal mode only (R179). That a reset clears it at the release of an asserted input, and
not at its assertion, is the model's choice (log 5). -/
def Obligations.EdgeFlagsClearedOnlyByTheirReads : Prop :=
  ∀ s t : State, step s = .next t →
    let reset := ∃ now rest, s.resetHeld = true ∧ s.host = .resetInput false now :: rest
    let word := fun w : Byte => ∃ inp rest, s.host = .command w inp :: rest
    (s.btn.pressedEdge = true → t.btn.pressedEdge = false →
      word 0x11 ∨ (word 0x19 ∧ s.shutdown = false) ∨ word 0x03 ∨ reset) ∧
    (s.btn.releasedEdge = true → t.btn.releasedEdge = false → word 0x12 ∨ word 0x03 ∨ reset) ∧
    (s.btn.doubleClickPending = true → t.btn.doubleClickPending = false → word 0x13 ∨ word 0x03 ∨ reset)

/-- The column "state written" of R73: a command changes no register outside it, and none of the configuration, the sampled
ports, the reset input and the host's later entries. -/
def Obligations.CommandWritesOnlyListedRegisters : Prop :=
  ∀ (i : Instr) (s : State), ∃ t, exec i s = .next t ∧
    (∀ r : Reg, stateWritten s i r = false → t.reg r = s.reg r) ∧
    t.cfg = s.cfg ∧ t.inp = s.inp ∧ t.resetHeld = s.resetHeld ∧ t.host = s.host

/-- R66, R78 with the column "ports read" of R73: a command that finds every unlisted port at 0 answers what it answers
with any values on them. -/
def Obligations.UnlistedPortsAreIgnored : Prop :=
  ∀ (i : Instr) (s : State), ∃ t, exec i s = .next t ∧
    exec i { s with inp := readPorts i s.inp } = .next { t with inp := readPorts i s.inp }

/-- R69: every accepted command returns one response; a field no rule of the command writes is 0. -/
def Obligations.ResponseFieldsBelongToTheirCommands : Prop :=
  ∀ (i : Instr) (s : State), ∃ t r, exec i s = .next t ∧ t.rsp = some r ∧ r.err = false ∧
    (r.shut = true → s.shutdown = true ∧ i ∈ [Instr.outputTick, .toolboxEval, .toolboxTimer]) ∧
    (r.value ≠ 0 → i ∈ [Instr.extract, .recomputeReady, .readPressed, .readReleased, .readDouble, .toolboxEval,
      .mayActivate]) ∧
    (i ≠ .extract → r.value.toNat ≤ 1) ∧
    (r.data ≠ 0 → i = .set) ∧
    (r.record ≠ Record.zero → i ∈ [Instr.decodeLamp, .decodeLock, .decodePark, .decodeBatt, .frameIn]) ∧
    (r.matched = true ∨ r.src ≠ 0 → i = .frameIn) ∧
    (r.heldEv = true → i = .buttonPoll) ∧
    (r.snap ≠ .zero → i = .snapshot ∨ i = .buttonStatus)

/-- R10, R43, R70: a command's write list has at most one event per actuator, in ascending number; a written actuator holds
the written level after it and the others what they held (`INIT` resets them to the level it writes). -/
def Obligations.WriteListMatchesLevels : Prop :=
  ∀ (i : Instr) (s : State), ∃ t, exec i s = .next t ∧
    t.writes.Pairwise (fun e f => e.actuator.num < f.actuator.num) ∧
    (∀ e ∈ t.writes, t.out.lastApplied.get e.actuator = e.level) ∧
    (∀ a : Actuator, (∀ e ∈ t.writes, e.actuator ≠ a) → t.out.lastApplied.get a = s.out.lastApplied.get a)

/-- R180, third invariant: but for `SAFE_SHUTDOWN` and `INIT`, a write changes the level the actuator had (from a state
whose toolbox level and pulse agree, as R180's first invariant says). -/
def Obligations.WritesChangeTheLevel : Prop :=
  ∀ (i : Instr) (s t : State), i ≠ .init → i ≠ .safeShutdown → s.out.lastApplied.toolbox = s.out.toolboxActive →
    exec i s = .next t → ∀ e ∈ t.writes, s.out.lastApplied.get e.actuator ≠ e.level

/-- R172, R175, R179: whatever a step does, an actuator's level rises only in Normal mode with `systemReady` = 1: the three
state-driven ones by an `OUTPUT_TICK` word with their flag set, the toolbox by a `TOOLBOX_EVAL` word with a pending press
edge, parked and unlocked. -/
def Obligations.ActuatorRisesOnlyWhenReady : Prop :=
  ∀ (s t : State) (a : Actuator), step s = .next t → s.actLevel a = false → t.actLevel a = true →
    s.shutdown = false ∧ s.veh.systemReady = true ∧ ∃ cmd inp rest, s.host = .command cmd inp :: rest ∧
      match a with
      | .lamp => cmd = 0x18#8 ∧ s.veh.lampShouldBeOn = true
      | .parkedInd => cmd = 0x18#8 ∧ s.veh.isParked = true
      | .unlockedInd => cmd = 0x18#8 ∧ s.veh.isUnlocked = true
      | .toolbox => cmd = 0x19#8 ∧ s.btn.pressedEdge = true ∧ s.veh.isParked = true ∧ s.veh.isUnlocked = true

/-- The invariant (R29, R160, R180, the widths of 10_state.md, and the sentinel clause of R135 and R136 that R6 does not
imply: log 9) is kept by every step, from every state. -/
def Obligations.EveryStepKeepsMachineInvariant : Prop :=
  ∀ s t : State, s.Inv → step s = .next t → t.Inv

/-- The invariant holds after reset. -/
def Obligations.MachineInvariantAtReset : Prop := State.reset.Inv

/-- R91: what a `TICK` puts on the ports, in order, when it issues an `OUTPUT_TICK` (none issued since reset, or at least
`OUTPUT_PERIOD_MS` before `t`), and the time it then leaves for the next `TICK`. -/
def Obligations.TickExpandsToCommands : Prop :=
  ∀ (c : Config) (last : Option Time) (frames : List Frame) (btn : Bool) (t : Time),
    frames.length ≤ c.maxFramesPerTick →
    ∃ lines last', tick c last frames btn t = some (lines, last') ∧
      lines.map Line.event =
        frames.map (fun f => Event.command 0x0C#8
          { InPorts.zero with now := t, frameId := f.id, frameLen := f.len, frameData := raw64 f.data }) ++
        [.command 0x0D#8 { InPorts.zero with now := t },
         .command 0x10#8 { InPorts.zero with now := t, btnPressed := btn },
         .command 0x19#8 { InPorts.zero with now := t },
         .command 0x1A#8 { InPorts.zero with now := t }] ++
        (match last with
         | none => [.command 0x18#8 InPorts.zero]
         | some u => if c.outputPeriodMs ≤ elapsed c.W t u then [.command 0x18#8 InPorts.zero] else []) ∧
      last' =
        (match last with
         | none => some t
         | some u => if c.outputPeriodMs ≤ elapsed c.W t u then some t else some u)
end

