-- ==== Sys2Proof/Laws/Flags.lean ====
section
/-! SUPPORT. Elapsed time: `wsub` is exact subtraction reduced modulo 2^W (spec 00_scope.md R8), always below 2^W, and blind
to multiples of 2^W in its operands. -/

namespace Sys2Proof.Machine

open Sys2Proof

/-- R8: `wsub` is the exact difference reduced modulo 2^W. -/
theorem wsub_eq_elapsed (W : Nat) (a b : Time) : wsub W a b = elapsed W a b := by
  have hpos : (0 : Nat) < 2 ^ W := Nat.two_pow_pos W
  have hlt : b % 2 ^ W < 2 ^ W := Nat.mod_lt _ hpos
  unfold wsub elapsed
  have key : (((a + (2 ^ W - b % 2 ^ W)) % 2 ^ W : Nat) : Int) = ((a : Int) - b) % (2 : Int) ^ W := by
    rw [Int.natCast_mod, Nat.cast_add, Nat.cast_sub hlt.le]
    push_cast
    have : (a : Int) + (2 ^ W - (b : Int) % 2 ^ W) = (a - b) + 2 ^ W * (1 + b / 2 ^ W) := by
      have := Int.emod_add_mul_ediv (b : Int) (2 ^ W)
      linarith [mul_add ((2 : Int) ^ W) 1 ((b : Int) / 2 ^ W)]
    rw [this, Int.add_mul_emod_self_left]
  rw [← key, Int.toNat_natCast]

theorem wsub_lt (W : Nat) (a b : Time) : wsub W a b < 2 ^ W := Nat.mod_lt _ (Nat.two_pow_pos W)

theorem wsub_mod_left (W : Nat) (a b : Time) : wsub W (a % 2 ^ W) b = wsub W a b := by
  unfold wsub; rw [Nat.mod_add_mod]

theorem wsub_mod_right (W : Nat) (a b : Time) : wsub W a (b % 2 ^ W) = wsub W a b := by
  unfold wsub; rw [Nat.mod_mod]

theorem wsub_self (W : Nat) (a : Time) : wsub W a a = 0 := by
  rw [wsub_eq_elapsed]; simp [elapsed]

/-- A time `d` after `t` is `d` later, modulo 2^W. -/
theorem wsub_add (W : Nat) (t d : Time) : wsub W (t + d) t = d % 2 ^ W := by
  rw [wsub_eq_elapsed]
  unfold elapsed
  have : ((t + d : Nat) : Int) - t = ((d : Nat) : Int) := by push_cast; ring
  rw [this]
  have : ((d : Int) % (2 : Int) ^ W) = ((d % 2 ^ W : Nat) : Int) := by push_cast; rfl
  rw [this, Int.toNat_natCast]

theorem portTime_lt (c : Config) (t : Time) : portTime c t < 2 ^ c.W := Nat.mod_lt _ (Nat.two_pow_pos _)

theorem now_lt (s : State) : s.now < 2 ^ s.cfg.W := portTime_lt _ _

/-- Elapsed time from the sampled port is elapsed time from the value driven on it. -/
theorem wsub_now (s : State) (b : Time) : wsub s.cfg.W s.now b = elapsed s.cfg.W s.inp.now b := by
  rw [State.now, portTime, wsub_mod_left, wsub_eq_elapsed]

/-- R138 in exact arithmetic. -/
theorem fresh_iff (c : Config) (v : VehicleRegs) (k : Source) (now : Time) :
    fresh c v k now = true ↔ v.seen.get k = true ∧ elapsed c.W now (v.ts.get k) < c.readyTimeoutMs.get k := by
  simp [fresh, wsub_eq_elapsed]

/-- R139, policy `ANY`: some source is fresh. -/
theorem readiness_any (c : Config) (v : VehicleRegs) (now : Time) (h : c.readyPolicy = .any) :
    readiness c v now = true ↔ ∃ k, fresh c v k now = true := by
  constructor
  · intro hr
    have : ((fresh c v .lamp now = true ∨ fresh c v .lock now = true) ∨ fresh c v .park now = true) ∨
        fresh c v .batt now = true := by simpa [readiness, h] using hr
    rcases this with ((h | h) | h) | h <;> exact ⟨_, h⟩
  · rintro ⟨k, hk⟩
    cases k <;> simp [readiness, h, hk]

/-- R139, policy `ALL`: every source is fresh. -/
theorem readiness_all (c : Config) (v : VehicleRegs) (now : Time) (h : c.readyPolicy = .all) :
    readiness c v now = true ↔ ∀ k, fresh c v k now = true := by
  constructor
  · intro hr k
    have : ((fresh c v .lamp now = true ∧ fresh c v .lock now = true) ∧ fresh c v .park now = true) ∧
        fresh c v .batt now = true := by simpa [readiness, h] using hr
    cases k <;> simp [this]
  · intro hk
    simp [readiness, h, hk]

end Sys2Proof.Machine
end

