-- ==== Sys2Proof/Laws/Button.lean ====
section
/-! SUPPORT. One poll of the button detector, said once: the four cases of the committed level before and after
(spec 43_button.md R150 to R154). -/

namespace Sys2Proof.Machine

open Sys2Proof

/-- R151 as one record. -/
theorem debounce_eq (c : Config) (b : ButtonRegs) (now : Time) (p : Bool) :
    b.sampleAndDebounce c now p = { b with
      previousDebouncedState := b.debouncedState, rawState := p
      lastChangeTime := changeTimeAt b now p, debouncedState := levelAt c b now p } := by
  unfold ButtonRegs.sampleAndDebounce ButtonRegs.commit ButtonRegs.sample changeTimeAt levelAt changeTimeAt
  simp only [wsub_eq_elapsed]
  by_cases h : p = b.rawState
  · subst h
    simp only [ne_eq, not_true_eq_false, if_false, if_true]
    by_cases h1 : c.debounceMs ≤ elapsed c.W now b.lastChangeTime <;> by_cases h2 : b.rawState = b.debouncedState <;> simp [h1, h2]
  · simp only [ne_eq, h, not_false_eq_true, if_true, if_false]
    by_cases h1 : c.debounceMs ≤ elapsed c.W now now <;> by_cases h2 : p = b.debouncedState <;> simp [h1, h2]

/-- R154 as one record. -/
theorem holdStep_eq (c : Config) (b : ButtonRegs) (now : Time) :
    b.holdStep c now =
      ({ b with
          holdDurationMs := elapsed c.W now b.lastPressTime
          isHeld := b.isHeld || decide (c.holdMs < elapsed c.W now b.lastPressTime) },
        !b.isHeld && decide (c.holdMs < elapsed c.W now b.lastPressTime)) := by
  unfold ButtonRegs.holdStep
  simp only [wsub_eq_elapsed]
  by_cases h1 : c.holdMs < elapsed c.W now b.lastPressTime <;> cases b.isHeld <;> simp [h1]

/-- R150: what a poll does, by the committed level before it and after it. -/
theorem poll_eq (c : Config) (b : ButtonRegs) (now : Time) (p : Bool) :
    b.poll c now p =
    let b1 := { b with
      previousDebouncedState := b.debouncedState, rawState := p
      lastChangeTime := changeTimeAt b now p, debouncedState := levelAt c b now p }
    match b.debouncedState, levelAt c b now p with
    | false, false => (b1, false)
    | false, true => (b1.pressStep c now, false)
    | true, false => (b1.releaseStep c now, false)
    | true, true => b1.holdStep c now := by
  unfold ButtonRegs.poll
  rw [debounce_eq]
  unfold ButtonRegs.holdIfDown ButtonRegs.releaseIfFallen ButtonRegs.pressIfRisen
  cases hd : b.debouncedState <;> cases hl : levelAt c b now p <;> 
    simp [ButtonRegs.pressStep, ButtonRegs.holdStep, ButtonRegs.releaseStep, wsub_self, ButtonRegs.isDoubleClick]

end Sys2Proof.Machine
end

