-- ==== Sys2Proof/Laws/Codec.lean ====
section
/-! SUPPORT. The codec functions bit by bit and as exact arithmetic (spec 40_codec.md R100 to R103), and the byte views of
the frame (20_memory.md R52, R53). -/

namespace Sys2Proof.Machine

open Sys2Proof

/-- R100: the precondition of the codec. -/
theorem inRange_iff (sb len : Nat) : inRange sb len = true ↔ 1 ≤ len ∧ len ≤ 16 ∧ sb ≤ 63 ∧ len ≤ sb + 1 := by
  simp [inRange, and_assoc]

/-- Bit `i` of `mask(n)`. -/
theorem mask64_getLsbD (n i : Nat) (h : i < 64) : (mask64 n).getLsbD i = decide (i < n) := by
  simp only [mask64, BitVec.getLsbD_ofNat, h, Nat.testBit_two_pow_sub_one, decide_true, Bool.true_and]

/-- Masking to `n` bits is the remainder modulo 2^n. -/
theorem and_mask64_toNat (raw : FrameData) (n : Nat) (h : n ≤ 64): (raw &&& mask64 n).toNat = raw.toNat % 2 ^ n := by
  rw [mask64, BitVec.toNat_and, BitVec.toNat_ofNat, Nat.mod_eq_of_lt, Nat.and_two_pow_sub_one_eq_mod]
  have := Nat.pow_le_pow_right (n:=2) (by decide) h
  have := Nat.two_pow_pos n
  omega

/-- R101: within the precondition the result is the field's value. -/
theorem extract_toNat (raw : FrameData) (sb len : Nat) (h : inRange sb len = true) :
    (extract raw sb len).toNat = fieldValue raw sb len := by
  have h' := (inRange_iff _ _).1 h
  simp only [extract, h, if_true, BitVec.toNat_setWidth]
  rw [and_mask64_toNat _ _ (by omega), BitVec.toNat_ushiftRight, Nat.shiftRight_eq_div_pow, Nat.mod_eq_of_lt]
  · rfl
  · have := Nat.mod_lt (raw.toNat / 2 ^ (sb + 1 - len)) (Nat.two_pow_pos len)
    have : 2 ^ len ≤ 2 ^ 16 := Nat.pow_le_pow_right (by decide) h'.2.1
    omega

/-- A field within the precondition is below 2^16 (R101, corner cases). -/
theorem fieldValue_lt (raw : FrameData) (sb len : Nat) (h : inRange sb len = true) : fieldValue raw sb len < 2 ^ 16 := by
  have h' := (inRange_iff _ _).1 h
  have := Nat.mod_lt (raw.toNat / 2 ^ (sb + 1 - len)) (Nat.two_pow_pos len)
  have : 2 ^ len ≤ 2 ^ 16 := Nat.pow_le_pow_right (by decide) h'.2.1
  unfold fieldValue; omega

/-- R101 for every operand. -/
theorem extract_eq (raw : FrameData) (sb len : Nat) : extract raw sb len =
   if 1 ≤ len ∧ len ≤ 16 ∧ sb ≤ 63 ∧ len ≤ sb + 1 then BitVec.ofNat 32 (fieldValue raw sb len) else 0 := by
  by_cases h : inRange sb len = true
  · rw [if_pos ((inRange_iff _ _).1 h)]
    apply BitVec.eq_of_toNat_eq
    rw [extract_toNat _ _ _ h, BitVec.toNat_ofNat, Nat.mod_eq_of_lt]
    have := fieldValue_lt raw sb len h; omega
  · rw [if_neg (fun hh => h ((inRange_iff _ _).2 hh))]
    simp [extract, h]

/-- R103 and R105, bit by bit. -/
theorem setField_getLsbD (raw : FrameData) (sb len : Nat) (v : Word) (n : Nat) (hn : n < 64) :
   (setField raw sb len v).getLsbD n = 
     if 1 ≤ len ∧ len ≤ 16 ∧ sb ≤ 63 ∧ len ≤ sb + 1 ∧ sb + 1 - len ≤ n ∧ n ≤ sb then v.getLsbD (n - (sb + 1 - len)) else raw.getLsbD n := by
  by_cases h : inRange sb len = true
  · have h' := (inRange_iff _ _).1 h
    simp only [setField, h, if_true, BitVec.getLsbD_or, BitVec.getLsbD_and, BitVec.getLsbD_not, BitVec.getLsbD_shiftLeft, hn, decide_true, Bool.true_and, BitVec.getLsbD_setWidth]
    rw [mask64_getLsbD _ _ (by omega)]
    by_cases h1 : sb + 1 - len ≤ n
    · by_cases h2 : n ≤ sb
      · have : n - (sb + 1 - len) < len := by omega
        rw [if_pos (by omega)]
        simp [this, Nat.not_lt.2 h1]; omega
      · have : ¬ n - (sb + 1 - len) < len := by omega
        rw [if_neg (by omega)]
        simp [this, Nat.not_lt.2 h1]
    · rw [if_neg (by omega)]
      simp [show n < sb + 1 - len by omega]
  · rw [if_neg (fun hh => h ((inRange_iff _ _).2 (by tauto)))]
    simp [setField, h]

/-- Bit `j` of byte `i` is bit `8i+j` of the 64-bit view (20_memory.md R53). -/
theorem frameByte_getLsbD (raw : FrameData) (i j : Nat) (hj : j < 8) : (frameByte raw i).getLsbD j = raw.getLsbD (8*i+j) := by
  simp [frameByte, hj]

/-- R52: bit `i` after a write of `n` bytes at byte index `a`. -/
theorem memWrite_getLsbD (raw v : FrameData) (a n i : Nat) (_ : a + n ≤ 8) (hi : i < 64) :
    (memWrite raw a n v).getLsbD i = if 8 * a ≤ i ∧ i < 8 * a + 8 * n then v.getLsbD (i - 8 * a) else raw.getLsbD i := by
  simp only [memWrite, BitVec.getLsbD_or, BitVec.getLsbD_and, BitVec.getLsbD_not, BitVec.getLsbD_shiftLeft, hi,
    decide_true, Bool.true_and]
  rw [mask64_getLsbD _ _ (by omega)]
  by_cases h1 : 8 * a ≤ i
  · by_cases h2 : i < 8 * a + 8 * n
    · have : i - 8 * a < 8 * n := by omega
      simp [h1, h2, this, Nat.not_lt.2 h1]
    · have : ¬ i - 8 * a < 8 * n := by omega
      simp [h1, h2, this]
  · simp [h1, show i < 8 * a by omega]

end Sys2Proof.Machine
end

