-- ==== Sys2Proof/Laws/Config.lean ====
section
/-! SUPPORT. Each check on a configuration as the clause of spec 00_scope.md R6 (or 30_encoding.md R84) it stands for, and a
legal configuration as one that passes all of them. -/

namespace Sys2Proof

theorem sigPos_wellFormed_iff (p : SigPos) :
    p.wellFormed = true ↔ 1 ≤ p.len ∧ p.len ≤ 16 ∧ p.start ≤ 63 ∧ p.len ≤ p.start + 1 := by
  simp [SigPos.wellFormed, and_assoc]

theorem widthOk_iff (c : Config) : c.widthOk = true ↔ 1 ≤ c.W := by
  simp [Config.widthOk]

theorem timesFit_iff (c : Config) :
    c.timesFit = true ↔
      (∀ x ∈ [c.debounceMs, c.doubleClickMs, c.holdMs, c.toolboxMs], x < 2 ^ c.W) ∧
      ∀ k, c.readyTimeoutMs.get k < 2 ^ c.W := by
  have timeouts : (∀ k, c.readyTimeoutMs.get k < 2 ^ c.W) ↔
      c.readyTimeoutMs.lamp < 2 ^ c.W ∧ c.readyTimeoutMs.lock < 2 ^ c.W ∧ c.readyTimeoutMs.park < 2 ^ c.W ∧
      c.readyTimeoutMs.batt < 2 ^ c.W :=
    ⟨fun h => ⟨h .lamp, h .lock, h .park, h .batt⟩, fun h k => by cases k <;> simp [PerSource.get, h]⟩
  rw [timeouts]
  simp [Config.timesFit, and_assoc]

theorem idsDistinct_iff (c : Config) : c.idsDistinct = true ↔ ∀ j k, j ≠ k → c.id.get j ≠ c.id.get k := by
  constructor
  · intro h j k hjk
    simp only [Config.idsDistinct, Bool.and_eq_true, decide_eq_true_eq] at h
    obtain ⟨⟨⟨⟨⟨h1, h2⟩, h3⟩, h4⟩, h5⟩, h6⟩ := h
    cases j <;> cases k <;> first | exact absurd rfl hjk | assumption | exact Ne.symm ‹_›
  · intro h
    simp only [Config.idsDistinct, Bool.and_eq_true, decide_eq_true_eq]
    exact ⟨⟨⟨⟨⟨h .lamp .lock (by decide), h .lamp .park (by decide)⟩, h .lamp .batt (by decide)⟩,
      h .lock .park (by decide)⟩, h .lock .batt (by decide)⟩, h .park .batt (by decide)⟩

theorem signalsOk_iff (c : Config) :
    c.signalsOk = true ↔
      ∀ p ∈ [c.sigPudLamp, c.sigIllum, c.sigCourtesy, c.sigLock, c.sigPark, c.sigBatt], p.wellFormed = true := by
  simp [Config.signalsOk, and_assoc]

theorem battLenOk_iff (c : Config) :
    c.battLenOk = true ↔ c.sigBatt.len = 7 ∨ (c.sigBatt.len = 8 ∧ c.sigBatt.start = 23) := by
  simp [Config.battLenOk]

theorem sentinelOk_iff (c : Config) :
    c.sentinelOk = true ↔ c.maxLamp < c.sentinel ∧ c.maxLock < c.sentinel ∧ c.battMax < c.sentinel ∧
      c.sentinel ≤ 0xFF := by
  simp [Config.sentinelOk, and_assoc]

theorem codeParkOk_iff (c : Config) : c.codeParkOk = true ↔ c.codePark.toNat ≤ c.maxPark := by
  simp [Config.codeParkOk]

theorem legal_iff (c : Config) :
    c.legal = true ↔ c.widthOk = true ∧ c.timesFit = true ∧ c.idsDistinct = true ∧ c.signalsOk = true ∧
      c.battLenOk = true ∧ c.sentinelOk = true ∧ c.codeParkOk = true := by
  simp [Config.legal, and_assoc]

end Sys2Proof
end

