-- ==== Sys2Proof/Laws/Decoder.lean ====
section
/-! SUPPORT. The decoders (spec 41_decoder.md R110) and the dispatch by identifier (R115): what one signal of the loop does, the
record's timestamp, and the source an identifier names in a legal configuration. -/

namespace Sys2Proof.Machine

open Sys2Proof

/-- A well-formed signal place meets the codec precondition (00_scope.md R6, 40_codec.md R100). -/
theorem wf_inRange (p : SigPos) (h : p.wellFormed = true) : inRange p.start p.len = true := by
  simpa [SigPos.wellFormed, inRange] using h

/-- In a legal configuration every signal of every source meets the codec precondition (R6). -/
theorem legal_signals (c : Config) (h : c.legal = true) : ∀ k, ∀ g ∈ sigs c k, inRange g.pos.start g.pos.len = true := by
  have ok := (signalsOk_iff c).1 ((legal_iff c).1 h).2.2.2.1
  intro k g hg
  apply wf_inRange
  apply ok
  cases k <;> simp [sigs] at hg
  · rcases hg with rfl | rfl | rfl <;> simp
  all_goals subst hg; simp

/-- One signal of R110's loop, in exact arithmetic. -/
theorem decodeSignal_eq (raw : FrameData) (r : Record) (g : SigSpec) (h : inRange g.pos.start g.pos.len = true) :
   decodeSignal raw r g = { r.put g.field (BitVec.ofNat 16 (fieldValue raw g.pos.start g.pos.len)) with valid := r.valid && decide (fieldValue raw g.pos.start g.pos.len ≤ g.limit) } := by
  have e : (extract raw g.pos.start g.pos.len).setWidth 16 = BitVec.ofNat 16 (fieldValue raw g.pos.start g.pos.len) := by
    apply BitVec.eq_of_toNat_eq
    rw [BitVec.toNat_setWidth, extract_toNat _ _ _ h, BitVec.toNat_ofNat]
  simp only [decodeSignal, e, extract_toNat _ _ _ h]
  split
  · next hl => simp [Nat.not_le.2 hl]
  · next hl => 
    have : fieldValue raw g.pos.start g.pos.len ≤ g.limit := by omega
    simp [this]; cases g.field <;> rfl

/-- In a legal configuration an identifier names its own source (R6: pairwise distinct). -/
theorem sourceOfId_get (c : Config) (h : c.legal = true) (k : Source) : sourceOfId c (c.id.get k) = some k := by
  have distinct := (idsDistinct_iff c).1 ((legal_iff c).1 h).2.2.1
  have h1 := distinct k .lamp
  have h2 := distinct k .lock
  have h3 := distinct k .park
  cases k <;> simp_all [sourceOfId, PerSource.get]

/-- An identifier of no source names none. -/
theorem sourceOfId_none (c : Config) (id : Word) (h : ∀ k, id ≠ c.id.get k) : sourceOfId c id = none := by
  have h1 := h .lamp; have h2 := h .lock; have h3 := h .park; have h4 := h .batt
  simp [PerSource.get] at h1 h2 h3 h4
  simp [sourceOfId, *]

/-- R110: a record is stamped with `now`, valid or not. -/
theorem decoded_ts (s : State) (k : Source) : (s.decoded k).ts = s.now := by
  have put_ts : ∀ (r : Record) f v, (r.put f v).ts = r.ts := by intro r f v; cases f <;> rfl
  have : ∀ raw (l : List SigSpec) (r : Record), (l.foldl (decodeSignal raw) r).ts = r.ts := by
    intro raw l
    induction l with
    | nil => intro r; rfl
    | cons g l ih => intro r; rw [List.foldl_cons, ih]; unfold decodeSignal; dsimp only; split <;> simp [put_ts]
  unfold State.decoded decodeRecord
  split
  · rfl
  · rw [this]

end Sys2Proof.Machine
end

