-- ==== Sys2Proof/Laws/State.lean ====
section
/-! SUPPORT. What each update of the state does to each field, once, by `rfl`; and the composite updates as one record. -/

namespace Sys2Proof.Machine

open Sys2Proof

@[simp] theorem State.quiet_cfg (s : State) : s.quiet.cfg = s.cfg := rfl
@[simp] theorem State.quiet_veh (s : State) : s.quiet.veh = s.veh := rfl
@[simp] theorem State.quiet_btn (s : State) : s.quiet.btn = s.btn := rfl
@[simp] theorem State.quiet_out (s : State) : s.quiet.out = s.out := rfl
@[simp] theorem State.quiet_shutdown (s : State) : s.quiet.shutdown = s.shutdown := rfl
@[simp] theorem State.quiet_inp (s : State) : s.quiet.inp = s.inp := rfl
@[simp] theorem State.quiet_rsp (s : State) : s.quiet.rsp = none := rfl
@[simp] theorem State.quiet_writes (s : State) : s.quiet.writes = [] := rfl
@[simp] theorem State.quiet_resetHeld (s : State) : s.quiet.resetHeld = s.resetHeld := rfl
@[simp] theorem State.quiet_host (s : State) : s.quiet.host = s.host := rfl

@[simp] theorem State.begin_cfg (s : State) : s.begin.cfg = s.cfg := rfl
@[simp] theorem State.begin_veh (s : State) : s.begin.veh = s.veh := rfl
@[simp] theorem State.begin_btn (s : State) : s.begin.btn = s.btn := rfl
@[simp] theorem State.begin_out (s : State) : s.begin.out = s.out := rfl
@[simp] theorem State.begin_shutdown (s : State) : s.begin.shutdown = s.shutdown := rfl
@[simp] theorem State.begin_inp (s : State) : s.begin.inp = s.inp := rfl
@[simp] theorem State.begin_rsp (s : State) : s.begin.rsp = some Response.zero := rfl
@[simp] theorem State.begin_writes (s : State) : s.begin.writes = [] := rfl
@[simp] theorem State.begin_resetHeld (s : State) : s.begin.resetHeld = s.resetHeld := rfl
@[simp] theorem State.begin_host (s : State) : s.begin.host = s.host := rfl

@[simp] theorem State.respond_cfg (s : State) (r : Response) : (s.respond r).cfg = s.cfg := rfl
@[simp] theorem State.respond_veh (s : State) (r : Response) : (s.respond r).veh = s.veh := rfl
@[simp] theorem State.respond_btn (s : State) (r : Response) : (s.respond r).btn = s.btn := rfl
@[simp] theorem State.respond_out (s : State) (r : Response) : (s.respond r).out = s.out := rfl
@[simp] theorem State.respond_shutdown (s : State) (r : Response) : (s.respond r).shutdown = s.shutdown := rfl
@[simp] theorem State.respond_inp (s : State) (r : Response) : (s.respond r).inp = s.inp := rfl
@[simp] theorem State.respond_rsp (s : State) (r : Response) : (s.respond r).rsp = some r := rfl
@[simp] theorem State.respond_writes (s : State) (r : Response) : (s.respond r).writes = s.writes := rfl
@[simp] theorem State.respond_resetHeld (s : State) (r : Response) : (s.respond r).resetHeld = s.resetHeld := rfl
@[simp] theorem State.respond_host (s : State) (r : Response) : (s.respond r).host = s.host := rfl

@[simp] theorem State.respondBit_cfg (s : State) (b : Bool) : (s.respondBit b).cfg = s.cfg := rfl
@[simp] theorem State.respondBit_veh (s : State) (b : Bool) : (s.respondBit b).veh = s.veh := rfl
@[simp] theorem State.respondBit_btn (s : State) (b : Bool) : (s.respondBit b).btn = s.btn := rfl
@[simp] theorem State.respondBit_out (s : State) (b : Bool) : (s.respondBit b).out = s.out := rfl
@[simp] theorem State.respondBit_shutdown (s : State) (b : Bool) : (s.respondBit b).shutdown = s.shutdown := rfl
@[simp] theorem State.respondBit_inp (s : State) (b : Bool) : (s.respondBit b).inp = s.inp := rfl
@[simp] theorem State.respondBit_rsp (s : State) (b : Bool) : (s.respondBit b).rsp = some { Response.zero with value := boolWord b } := rfl
@[simp] theorem State.respondBit_writes (s : State) (b : Bool) : (s.respondBit b).writes = s.writes := rfl
@[simp] theorem State.respondBit_resetHeld (s : State) (b : Bool) : (s.respondBit b).resetHeld = s.resetHeld := rfl
@[simp] theorem State.respondBit_host (s : State) (b : Bool) : (s.respondBit b).host = s.host := rfl

@[simp] theorem State.respondRecord_cfg (s : State) (r : Record) : (s.respondRecord r).cfg = s.cfg := rfl
@[simp] theorem State.respondRecord_veh (s : State) (r : Record) : (s.respondRecord r).veh = s.veh := rfl
@[simp] theorem State.respondRecord_btn (s : State) (r : Record) : (s.respondRecord r).btn = s.btn := rfl
@[simp] theorem State.respondRecord_out (s : State) (r : Record) : (s.respondRecord r).out = s.out := rfl
@[simp] theorem State.respondRecord_shutdown (s : State) (r : Record) : (s.respondRecord r).shutdown = s.shutdown := rfl
@[simp] theorem State.respondRecord_inp (s : State) (r : Record) : (s.respondRecord r).inp = s.inp := rfl
@[simp] theorem State.respondRecord_rsp (s : State) (r : Record) : (s.respondRecord r).rsp = some { Response.zero with record := r } := rfl
@[simp] theorem State.respondRecord_writes (s : State) (r : Record) : (s.respondRecord r).writes = s.writes := rfl
@[simp] theorem State.respondRecord_resetHeld (s : State) (r : Record) : (s.respondRecord r).resetHeld = s.resetHeld := rfl
@[simp] theorem State.respondRecord_host (s : State) (r : Record) : (s.respondRecord r).host = s.host := rfl

@[simp] theorem State.emit_cfg (s : State) (a : Actuator) (v : Bool) : (s.emit a v).cfg = s.cfg := rfl
@[simp] theorem State.emit_veh (s : State) (a : Actuator) (v : Bool) : (s.emit a v).veh = s.veh := rfl
@[simp] theorem State.emit_btn (s : State) (a : Actuator) (v : Bool) : (s.emit a v).btn = s.btn := rfl
@[simp] theorem State.emit_out (s : State) (a : Actuator) (v : Bool) : (s.emit a v).out = { s.out with lastApplied := s.out.lastApplied.set a v } := rfl
@[simp] theorem State.emit_shutdown (s : State) (a : Actuator) (v : Bool) : (s.emit a v).shutdown = s.shutdown := rfl
@[simp] theorem State.emit_inp (s : State) (a : Actuator) (v : Bool) : (s.emit a v).inp = s.inp := rfl
@[simp] theorem State.emit_rsp (s : State) (a : Actuator) (v : Bool) : (s.emit a v).rsp = s.rsp := rfl
@[simp] theorem State.emit_writes (s : State) (a : Actuator) (v : Bool) : (s.emit a v).writes = s.writes ++ [⟨a, v⟩] := rfl
@[simp] theorem State.emit_resetHeld (s : State) (a : Actuator) (v : Bool) : (s.emit a v).resetHeld = s.resetHeld := rfl
@[simp] theorem State.emit_host (s : State) (a : Actuator) (v : Bool) : (s.emit a v).host = s.host := rfl

@[simp] theorem State.resetRegs_cfg (s : State) (t0 : Time) : (s.resetRegs t0).cfg = s.cfg := rfl
@[simp] theorem State.resetRegs_veh (s : State) (t0 : Time) : (s.resetRegs t0).veh = vehicleReset s.cfg := rfl
@[simp] theorem State.resetRegs_btn (s : State) (t0 : Time) : (s.resetRegs t0).btn = buttonReset t0 := rfl
@[simp] theorem State.resetRegs_out (s : State) (t0 : Time) : (s.resetRegs t0).out = outputReset := rfl
@[simp] theorem State.resetRegs_shutdown (s : State) (t0 : Time) : (s.resetRegs t0).shutdown = false := rfl
@[simp] theorem State.resetRegs_inp (s : State) (t0 : Time) : (s.resetRegs t0).inp = s.inp := rfl
@[simp] theorem State.resetRegs_rsp (s : State) (t0 : Time) : (s.resetRegs t0).rsp = s.rsp := rfl
@[simp] theorem State.resetRegs_writes (s : State) (t0 : Time) : (s.resetRegs t0).writes = s.writes := rfl
@[simp] theorem State.resetRegs_resetHeld (s : State) (t0 : Time) : (s.resetRegs t0).resetHeld = s.resetHeld := rfl
@[simp] theorem State.resetRegs_host (s : State) (t0 : Time) : (s.resetRegs t0).host = s.host := rfl

@[simp] theorem State.accept_cfg (s : State) (inp : InPorts) (rest : List Event) : (s.accept inp rest).cfg = s.cfg := rfl
@[simp] theorem State.accept_veh (s : State) (inp : InPorts) (rest : List Event) : (s.accept inp rest).veh = s.veh := rfl
@[simp] theorem State.accept_btn (s : State) (inp : InPorts) (rest : List Event) : (s.accept inp rest).btn = s.btn := rfl
@[simp] theorem State.accept_out (s : State) (inp : InPorts) (rest : List Event) : (s.accept inp rest).out = s.out := rfl
@[simp] theorem State.accept_shutdown (s : State) (inp : InPorts) (rest : List Event) : (s.accept inp rest).shutdown = s.shutdown := rfl
@[simp] theorem State.accept_inp (s : State) (inp : InPorts) (rest : List Event) : (s.accept inp rest).inp = inp := rfl
@[simp] theorem State.accept_rsp (s : State) (inp : InPorts) (rest : List Event) : (s.accept inp rest).rsp = s.rsp := rfl
@[simp] theorem State.accept_writes (s : State) (inp : InPorts) (rest : List Event) : (s.accept inp rest).writes = s.writes := rfl
@[simp] theorem State.accept_resetHeld (s : State) (inp : InPorts) (rest : List Event) : (s.accept inp rest).resetHeld = s.resetHeld := rfl
@[simp] theorem State.accept_host (s : State) (inp : InPorts) (rest : List Event) : (s.accept inp rest).host = rest := rfl

@[simp] theorem State.pass_cfg (s : State) (rest : List Event) : (s.pass rest).cfg = s.cfg := rfl
@[simp] theorem State.pass_veh (s : State) (rest : List Event) : (s.pass rest).veh = s.veh := rfl
@[simp] theorem State.pass_btn (s : State) (rest : List Event) : (s.pass rest).btn = s.btn := rfl
@[simp] theorem State.pass_out (s : State) (rest : List Event) : (s.pass rest).out = s.out := rfl
@[simp] theorem State.pass_shutdown (s : State) (rest : List Event) : (s.pass rest).shutdown = s.shutdown := rfl
@[simp] theorem State.pass_inp (s : State) (rest : List Event) : (s.pass rest).inp = s.inp := rfl
@[simp] theorem State.pass_rsp (s : State) (rest : List Event) : (s.pass rest).rsp = none := rfl
@[simp] theorem State.pass_writes (s : State) (rest : List Event) : (s.pass rest).writes = [] := rfl
@[simp] theorem State.pass_resetHeld (s : State) (rest : List Event) : (s.pass rest).resetHeld = s.resetHeld := rfl
@[simp] theorem State.pass_host (s : State) (rest : List Event) : (s.pass rest).host = rest := rfl

@[simp] theorem State.updateSrc_cfg (s : State) (src : Source) (r : Record) : (s.updateSrc src r).cfg = s.cfg := rfl
@[simp] theorem State.updateSrc_veh (s : State) (src : Source) (r : Record) : (s.updateSrc src r).veh = s.veh.update s.cfg src r := rfl
@[simp] theorem State.updateSrc_btn (s : State) (src : Source) (r : Record) : (s.updateSrc src r).btn = s.btn := rfl
@[simp] theorem State.updateSrc_out (s : State) (src : Source) (r : Record) : (s.updateSrc src r).out = s.out := rfl
@[simp] theorem State.updateSrc_shutdown (s : State) (src : Source) (r : Record) : (s.updateSrc src r).shutdown = s.shutdown := rfl
@[simp] theorem State.updateSrc_inp (s : State) (src : Source) (r : Record) : (s.updateSrc src r).inp = s.inp := rfl
@[simp] theorem State.updateSrc_rsp (s : State) (src : Source) (r : Record) : (s.updateSrc src r).rsp = s.rsp := rfl
@[simp] theorem State.updateSrc_writes (s : State) (src : Source) (r : Record) : (s.updateSrc src r).writes = s.writes := rfl
@[simp] theorem State.updateSrc_resetHeld (s : State) (src : Source) (r : Record) : (s.updateSrc src r).resetHeld = s.resetHeld := rfl
@[simp] theorem State.updateSrc_host (s : State) (src : Source) (r : Record) : (s.updateSrc src r).host = s.host := rfl

@[simp] theorem State.startPulse_cfg (s : State) (now : Time) : (s.startPulse now).cfg = s.cfg := rfl
@[simp] theorem State.startPulse_veh (s : State) (now : Time) : (s.startPulse now).veh = s.veh := rfl
@[simp] theorem State.startPulse_btn (s : State) (now : Time) : (s.startPulse now).btn = s.btn := rfl
@[simp] theorem State.startPulse_out (s : State) (now : Time) : (s.startPulse now).out = ⟨s.out.lastApplied.set .toolbox true, true, now⟩ := rfl
@[simp] theorem State.startPulse_shutdown (s : State) (now : Time) : (s.startPulse now).shutdown = s.shutdown := rfl
@[simp] theorem State.startPulse_inp (s : State) (now : Time) : (s.startPulse now).inp = s.inp := rfl
@[simp] theorem State.startPulse_rsp (s : State) (now : Time) : (s.startPulse now).rsp = s.rsp := rfl
@[simp] theorem State.startPulse_writes (s : State) (now : Time) : (s.startPulse now).writes = s.writes ++ [⟨.toolbox, true⟩] := rfl
@[simp] theorem State.startPulse_resetHeld (s : State) (now : Time) : (s.startPulse now).resetHeld = s.resetHeld := rfl
@[simp] theorem State.startPulse_host (s : State) (now : Time) : (s.startPulse now).host = s.host := rfl

@[simp] theorem State.endPulse_cfg (s : State) : s.endPulse.cfg = s.cfg := rfl
@[simp] theorem State.endPulse_veh (s : State) : s.endPulse.veh = s.veh := rfl
@[simp] theorem State.endPulse_btn (s : State) : s.endPulse.btn = s.btn := rfl
@[simp] theorem State.endPulse_out (s : State) : s.endPulse.out = ⟨s.out.lastApplied.set .toolbox false, false, s.out.toolboxStart⟩ := rfl
@[simp] theorem State.endPulse_shutdown (s : State) : s.endPulse.shutdown = s.shutdown := rfl
@[simp] theorem State.endPulse_inp (s : State) : s.endPulse.inp = s.inp := rfl
@[simp] theorem State.endPulse_rsp (s : State) : s.endPulse.rsp = s.rsp := rfl
@[simp] theorem State.endPulse_writes (s : State) : s.endPulse.writes = s.writes ++ [⟨.toolbox, false⟩] := rfl
@[simp] theorem State.endPulse_resetHeld (s : State) : s.endPulse.resetHeld = s.resetHeld := rfl
@[simp] theorem State.endPulse_host (s : State) : s.endPulse.host = s.host := rfl

/-- The four off-writes as one record. -/
theorem State.emitAllOff_eq (s : State) :
    s.emitAllOff = { s with
      writes := s.writes ++ [⟨.lamp, false⟩] ++ [⟨.toolbox, false⟩] ++ [⟨.parkedInd, false⟩] ++ [⟨.unlockedInd, false⟩]
      out := { s.out with lastApplied := PerActuator.fill false } } := rfl

/-- A suppressed command as one record. -/
theorem State.suppressed_eq (s : State) :
    s.suppressed = { s with rsp := some { Response.zero with shut := true }, writes := [] } := rfl

/-- An illegal command as one record. -/
theorem State.illegalCommand_eq (s : State) :
    s.illegalCommand = { s with rsp := some { Response.zero with err := true }, writes := [] } := rfl

/-- A conditional write either finds the level already applied and does nothing, or is the write. -/
theorem State.emitOnChange_cases (s : State) (a : Actuator) (v : Bool) :
    (v = s.out.lastApplied.get a ∧ s.emitOnChange a v = s) ∨
    (v ≠ s.out.lastApplied.get a ∧ s.emitOnChange a v = s.emit a v) := by
  unfold State.emitOnChange
  split
  · exact .inl ⟨‹_›, rfl⟩
  · exact .inr ⟨‹_›, rfl⟩

/-- After a conditional write the actuator holds the target. -/
theorem State.emitOnChange_get (s : State) (a : Actuator) (v : Bool) :
    (s.emitOnChange a v).out.lastApplied.get a = v := by
  rcases s.emitOnChange_cases a v with ⟨h, e⟩ | ⟨-, e⟩ <;> rw [e]
  · exact h.symm
  · cases a <;> rfl

@[simp] theorem State.emitOnChange_cfg (s : State) (a : Actuator) (v : Bool) : (s.emitOnChange a v).cfg = s.cfg := by
  unfold State.emitOnChange; split <;> rfl

@[simp] theorem State.emitOnChange_veh (s : State) (a : Actuator) (v : Bool) : (s.emitOnChange a v).veh = s.veh := by
  unfold State.emitOnChange; split <;> rfl

@[simp] theorem State.emitOnChange_btn (s : State) (a : Actuator) (v : Bool) : (s.emitOnChange a v).btn = s.btn := by
  unfold State.emitOnChange; split <;> rfl

@[simp] theorem State.emitOnChange_shutdown (s : State) (a : Actuator) (v : Bool) : (s.emitOnChange a v).shutdown = s.shutdown := by
  unfold State.emitOnChange; split <;> rfl

@[simp] theorem State.emitOnChange_inp (s : State) (a : Actuator) (v : Bool) : (s.emitOnChange a v).inp = s.inp := by
  unfold State.emitOnChange; split <;> rfl

@[simp] theorem State.emitOnChange_rsp (s : State) (a : Actuator) (v : Bool) : (s.emitOnChange a v).rsp = s.rsp := by
  unfold State.emitOnChange; split <;> rfl

@[simp] theorem State.emitOnChange_resetHeld (s : State) (a : Actuator) (v : Bool) : (s.emitOnChange a v).resetHeld = s.resetHeld := by
  unfold State.emitOnChange; split <;> rfl

@[simp] theorem State.emitOnChange_host (s : State) (a : Actuator) (v : Bool) : (s.emitOnChange a v).host = s.host := by
  unfold State.emitOnChange; split <;> rfl

/-- Reading a per-source array after a write. -/
theorem perSource_get_set {α : Type} (v : PerSource α) (j k : Source) (x : α) :
    (v.set j x).get k = if k = j then x else v.get k := by
  cases j <;> cases k <;> rfl

/-- Reading a per-actuator array after a write. -/
theorem perActuator_get_set {α : Type} (v : PerActuator α) (a b : Actuator) (x : α) :
    (v.set a x).get b = if b = a then x else v.get b := by
  cases a <;> cases b <;> rfl

@[simp] theorem perSource_get_fill {α : Type} (x : α) (k : Source) : (PerSource.fill x).get k = x := by cases k <;> rfl

@[simp] theorem perActuator_get_fill {α : Type} (x : α) (a : Actuator) : (PerActuator.fill x).get a = x := by
  cases a <;> rfl

/-- What the reset input can do (70_reset_and_hazards.md R220): load the reset values on a release, or nothing but follow
the level. -/
theorem State.driveReset_cases (s : State) (level : Bool) (now : Time) :
    (s.resetHeld = true ∧ level = false ∧
      s.driveReset level now = (({ s with resetHeld := false }).quiet).resetRegs (now % 2 ^ s.cfg.W)) ∨
    (¬ (s.resetHeld = true ∧ level = false) ∧ s.driveReset level now = ({ s with resetHeld := level }).quiet) := by
  unfold State.driveReset
  split
  next h =>
    have h' : s.resetHeld = true ∧ level = false := by simpa using h
    exact .inl ⟨h'.1, h'.2, by rw [h'.2]; rfl⟩
  next h => exact .inr ⟨by simpa using h, rfl⟩

end Sys2Proof.Machine
end

