-- ==== Sys2Proof/Laws/Step.lean ====
section
/-! SUPPORT. What a step can do, said once (spec 00_scope.md R11): every claim about a step is a case analysis on
`step_cases`. The block has no memory (20_memory.md R50), so there is no canonical form of one to keep. -/

namespace Sys2Proof.Machine

open Sys2Proof

/-- Everything a step that answers a next state can have done. -/
theorem step_cases {s t : State} (h : step s = .next t) :
    s.cfg.legal = true ∧
    ((s.host = [] ∧ t = s.quiet) ∨
     (∃ rest, s.host = .idle :: rest ∧ t = s.pass rest) ∨
     (∃ level now rest, s.host = .resetInput level now :: rest ∧ t = (s.pass rest).driveReset level now) ∨
     (∃ cmd inp rest, s.host = .command cmd inp :: rest ∧ s.resetHeld = true ∧ t = s.pass rest) ∨
     (∃ cmd inp rest e, s.host = .command cmd inp :: rest ∧ s.resetHeld = false ∧ decode cmd = .error e ∧
        t = (s.accept inp rest).illegalCommand) ∨
     (∃ cmd inp rest i, s.host = .command cmd inp :: rest ∧ s.resetHeld = false ∧ decode cmd = .ok i ∧
        exec i (s.accept inp rest) = .next t)) := by
  unfold step at h
  split at h
  case isFalse => cases h
  case isTrue hl =>
    refine ⟨hl, ?_⟩
    unfold State.serve at h
    split at h
    · cases h; exact .inl ⟨‹_›, rfl⟩
    · cases h; exact .inr (.inl ⟨_, ‹_›, rfl⟩)
    · cases h; exact .inr (.inr (.inl ⟨_, _, _, ‹_›, rfl⟩))
    · split at h
      · cases h; exact .inr (.inr (.inr (.inl ⟨_, _, _, ‹_›, ‹_›, rfl⟩)))
      · next hr =>
        have hr' : s.resetHeld = false := by simpa using hr
        unfold execWord at h
        split at h
        · exact .inr (.inr (.inr (.inr (.inr ⟨_, _, _, _, ‹_›, hr', ‹_›, h⟩))))
        · cases h; exact .inr (.inr (.inr (.inr (.inl ⟨_, _, _, _, ‹_›, hr', ‹_›, rfl⟩))))

/-- A legal word on the port is executed on the state with its operands sampled. -/
theorem step_command {s : State} {cmd : Byte} {inp : InPorts} {rest : List Event} {i : Instr}
    (hl : s.cfg.legal = true) (hr : s.resetHeld = false) (hh : s.host = .command cmd inp :: rest)
    (hd : decode cmd = .ok i) : step s = exec i (s.accept inp rest) := by
  simp [step, hl, State.serve, hh, hr, execWord, hd]

end Sys2Proof.Machine
end

