-- ==== Sys2Proof/Laws/Exec.lean ====
section
/-! SUPPORT. What the commands with several outcomes can do, said once each: the update of a source (spec 42_aggregator.md
R130), the dispatch of a frame (41_decoder.md R115) and the three suppressed commands (44_output.md R173 to R179). -/

namespace Sys2Proof.Machine

open Sys2Proof

/-- R130: an update either finds an invalid record and does nothing, or stores the record and recomputes the owned flag. -/
theorem update_cases (c : Config) (v : VehicleRegs) (k : Source) (r : Record) :
    (r.valid = false ∧ v.update c k r = v) ∨
    (r.valid = true ∧ v.update c k r = VehicleRegs.recompute c
      { v with
        prev := v.prev.set k (v.cur.get k)
        cur := v.cur.set k (r.f0.setWidth 8)
        ts := v.ts.set k r.ts
        seen := v.seen.set k true } k (r.f0.setWidth 8)) := by
  unfold VehicleRegs.update
  cases h : r.valid <;> simp

/-- Only the named source has the identifier `sourceOfId` answers for. -/
theorem sourceOfId_some {c : Config} {id : Word} {k : Source} (h : sourceOfId c id = some k) : c.id.get k = id := by
  unfold sourceOfId at h
  split at h; · cases h; exact Eq.symm ‹_›
  split at h; · cases h; exact Eq.symm ‹_›
  split at h; · cases h; exact Eq.symm ‹_›
  split at h; · cases h; exact Eq.symm ‹_›
  cases h

/-- R115. -/
theorem frameIn_cases (s : State) :
    (sourceOfId s.cfg s.inp.frameId = none ∧ exec .frameIn s = .next s.begin) ∨
    (∃ k, sourceOfId s.cfg s.inp.frameId = some k ∧
      exec .frameIn s = .next ((s.begin.respond
        { Response.zero with matched := true, src := k.num, record := s.decoded k }).updateSrc k (s.decoded k))) := by
  simp only [exec, execFrameIn]
  cases h : sourceOfId s.cfg s.inp.frameId with
  | none => exact .inl ⟨rfl, rfl⟩
  | some k => exact .inr ⟨k, rfl, rfl⟩

/-- R173. -/
theorem outputTick_cases (s : State) :
    (s.shutdown = true ∧ exec .outputTick s = .next s.suppressed) ∨
    (s.shutdown = false ∧ exec .outputTick s = .next
      (((s.begin.emitOnChange .lamp (targets s.veh).1).emitOnChange .parkedInd (targets s.veh).2.1).emitOnChange
        .unlockedInd (targets s.veh).2.2)) := by
  simp only [exec, execOutputTick]
  cases h : s.shutdown <;> simp

/-- R175. -/
theorem toolboxEval_cases (s : State) :
    (s.shutdown = true ∧ exec .toolboxEval s = .next s.suppressed) ∨
    (s.shutdown = false ∧ s.toolboxGo = true ∧ s.out.toolboxActive = false ∧ exec .toolboxEval s = .next
      (State.startPulse { s.begin.respondBit true with btn := { s.btn with pressedEdge := false } } s.now)) ∨
    (s.shutdown = false ∧ ¬ (s.toolboxGo = true ∧ s.out.toolboxActive = false) ∧ exec .toolboxEval s = .next
      { s.begin.respondBit s.toolboxGo with btn := { s.btn with pressedEdge := false } }) := by
  simp only [exec, execToolboxEval]
  cases h : s.shutdown <;> cases h2 : s.toolboxGo <;> cases h3 : s.out.toolboxActive <;> simp

/-- R176. -/
theorem toolboxTimer_cases (s : State) :
    (s.shutdown = true ∧ exec .toolboxTimer s = .next s.suppressed) ∨
    (s.shutdown = false ∧ s.pulseDue = true ∧ exec .toolboxTimer s = .next s.begin.endPulse) ∨
    (s.shutdown = false ∧ s.pulseDue = false ∧ exec .toolboxTimer s = .next s.begin) := by
  simp only [exec, execToolboxTimer]
  cases h : s.shutdown <;> cases h2 : s.pulseDue <;> simp

/-- What the gate of a starting pulse needs (R170, R175). -/
theorem toolboxGo_iff (s : State) : s.toolboxGo = true ↔
    s.btn.pressedEdge = true ∧ s.veh.systemReady = true ∧ s.veh.isParked = true ∧ s.veh.isUnlocked = true := by
  simp [State.toolboxGo, toolboxMayActivate, and_assoc]

end Sys2Proof.Machine
end

