-- ==== Sys2Proof/Laws/PerInstr.lean ====
section
/-! SUPPORT. Facts about every command as syntax, one lemma per constructor: the family `CommandWord` (spec 30_encoding.md
R71, R73, R74, R78). -/

namespace Sys2Proof.Laws.CommandWord

open Sys2Proof

/-- The word of a command: the command is well formed, the word's reserved field is 0, its opcode is `fam * 4 + mem` and
stands in the opcode map for this command, and the table reader gives the command back. -/
def Statement (i : Instr) : Prop :=
  i.wellFormed = true ∧ rsvField (encode i) = 0 ∧
  (opField (encode i)).toNat = 4 * (famMem i).1.toNat + (famMem i).2.toNat ∧
  instrOfOp (opField (encode i)).toNat = some i ∧ decodeTableWord 8 (encode i).toNat = some i

theorem extract : Statement .extract := by unfold Statement; decide
theorem set : Statement .set := by unfold Statement; decide
theorem init : Statement .init := by unfold Statement; decide
theorem decodeLamp : Statement .decodeLamp := by unfold Statement; decide
theorem decodeLock : Statement .decodeLock := by unfold Statement; decide
theorem decodePark : Statement .decodePark := by unfold Statement; decide
theorem decodeBatt : Statement .decodeBatt := by unfold Statement; decide
theorem updateLamp : Statement .updateLamp := by unfold Statement; decide
theorem updateLock : Statement .updateLock := by unfold Statement; decide
theorem updatePark : Statement .updatePark := by unfold Statement; decide
theorem updateBatt : Statement .updateBatt := by unfold Statement; decide
theorem frameIn : Statement .frameIn := by unfold Statement; decide
theorem recomputeReady : Statement .recomputeReady := by unfold Statement; decide
theorem touchFreshness : Statement .touchFreshness := by unfold Statement; decide
theorem snapshot : Statement .snapshot := by unfold Statement; decide
theorem buttonPoll : Statement .buttonPoll := by unfold Statement; decide
theorem readPressed : Statement .readPressed := by unfold Statement; decide
theorem readReleased : Statement .readReleased := by unfold Statement; decide
theorem readDouble : Statement .readDouble := by unfold Statement; decide
theorem buttonStatus : Statement .buttonStatus := by unfold Statement; decide
theorem outputTick : Statement .outputTick := by unfold Statement; decide
theorem toolboxEval : Statement .toolboxEval := by unfold Statement; decide
theorem toolboxTimer : Statement .toolboxTimer := by unfold Statement; decide
theorem mayActivate : Statement .mayActivate := by unfold Statement; decide
theorem safeShutdown : Statement .safeShutdown := by unfold Statement; decide

end Sys2Proof.Laws.CommandWord
end

