-- ==== Sys2Proof/Tests/Slice0.lean ====
section
/-! SUPPORT. Tests: ill-formed configurations the check refuses, words written out from the opcode map, one-step tests whose
expected values are the vectors of spec 95_test_vectors.md (named in each), and for each obligation with hypotheses a witness
that meets them. -/

namespace Sys2Proof.Tests

open Sys2Proof Sys2Proof.Machine

/-! ## Well-formedness -/

theorem test_defaultConfig_legal : Config.default.legal = true := by decide
theorem test_width0_refused : { Config.default with W := 0 }.legal = false := by decide
theorem test_time_too_wide_refused : { Config.default with W := 9 }.timesFit = false := by decide
theorem test_timeout_at_width_refused :
    { Config.default with readyTimeoutMs := ⟨600000, 600000, 600000, 2 ^ 32⟩ }.legal = false := by decide
theorem test_equal_ids_refused : { Config.default with id := ⟨0x3C3, 0x331, 0x331, 0x43C⟩ }.legal = false := by decide
theorem test_signal_place_refused : { Config.default with sigPark := ⟨2, 4⟩ }.legal = false := by decide
theorem test_signal_length_refused : { Config.default with sigLock := ⟨34, 17⟩ }.legal = false := by decide
theorem test_batt_length_refused : { Config.default with sigBatt := ⟨22, 6⟩ }.legal = false := by decide
theorem test_sentinel_low_refused : { Config.default with sentinel := 127 }.legal = false := by decide
theorem test_sentinel_high_refused : { Config.default with sentinel := 0x100 }.legal = false := by decide
theorem test_codePark_refused : { Config.default with maxPark := 0 }.legal = false := by decide
/-- R84: an 8-bit battery field starts at bit 23. -/
theorem test_batt8_at_22_refused : { Config.default with sigBatt := ⟨22, 8⟩ }.legal = false := by decide
theorem test_batt8_legal : { Config.default with sigBatt := ⟨23, 8⟩ }.legal = true := by decide
theorem test_every_command_wellFormed : (Instr.wellFormed .extract && Instr.wellFormed .safeShutdown) = true := by decide

/-- The step refuses an illegal configuration by name. -/
theorem test_step_refuses_illegal :
    step { State.reset with cfg := { Config.default with W := 0 } } = .refused .illegalConfig := by rfl

/-! ## Decoding: every command's word, from the bits of 30_encoding.md R71 and R73 -/

theorem test_decode_codec_control : decode 0b00000001 = .ok .extract ∧ decode 0b00000010 = .ok .set ∧
    decode 0b00000011 = .ok .init := by decide
theorem test_decode_decode : decode 0b00000100 = .ok .decodeLamp ∧ decode 0b00000101 = .ok .decodeLock ∧
    decode 0b00000110 = .ok .decodePark ∧ decode 0b00000111 = .ok .decodeBatt := by decide
theorem test_decode_update : decode 0b00001000 = .ok .updateLamp ∧ decode 0b00001001 = .ok .updateLock ∧
    decode 0b00001010 = .ok .updatePark ∧ decode 0b00001011 = .ok .updateBatt := by decide
theorem test_decode_vehicle : decode 0b00001100 = .ok .frameIn ∧ decode 0b00001101 = .ok .recomputeReady ∧
    decode 0b00001110 = .ok .touchFreshness ∧ decode 0b00001111 = .ok .snapshot := by decide
theorem test_decode_button : decode 0b00010000 = .ok .buttonPoll ∧ decode 0b00010001 = .ok .readPressed ∧
    decode 0b00010010 = .ok .readReleased ∧ decode 0b00010011 = .ok .readDouble ∧
    decode 0b00010100 = .ok .buttonStatus := by decide
theorem test_decode_output : decode 0b00011000 = .ok .outputTick ∧ decode 0b00011001 = .ok .toolboxEval ∧
    decode 0b00011010 = .ok .toolboxTimer ∧ decode 0b00011011 = .ok .mayActivate := by decide
theorem test_decode_shutdown : decode 0b00011100 = .ok .safeShutdown := by decide
/-- CT2. -/
theorem test_decode_reservedOp :
    ([0x00, 0x15, 0x16, 0x17, 0x1D, 0x1E, 0x1F] : List Byte).all (fun w => decode w == .error .reservedOp) = true := by
  decide
/-- CT3, CT4. -/
theorem test_decode_reservedBits :
    ([0x20, 0x3C, 0x81, 0xFF, 0x38] : List Byte).all (fun w => decode w == .error .reservedBits) = true := by decide
/-- P2's byte stream. -/
theorem test_encode_stream : [Instr.frameIn, .recomputeReady, .outputTick].map encode = [0x0C, 0x0D, 0x18] := by decide
theorem test_tableWord_width : decodeTableWord 8 0x1B = some .mayActivate ∧ decodeTableWord 16 0x1B = none ∧
    decodeTableWord 8 0x11B = none := by decide
theorem test_withFetchWord_runs :
    step (State.reset.withFetchWord 8 0x0F) = exec .snapshot (State.reset.accept InPorts.zero []) := by rfl

/-! ## One step -/

/-- The state after one step that finds this line on the ports. -/
def after (s : State) (l : Line) : Option State :=
  match step { s with host := [l.event] } with
  | .next t => some t
  | _ => none

/-- The response of that step. -/
def rspOf (s : State) (l : Line) : Option Response := (after s l).bind (·.rsp)

/-- The write list of that step. -/
def writesOf (s : State) (l : Line) : Option (List WriteEvent) := (after s l).map (·.writes)

/-- `01.02.03.04.05.06.07.08`. -/
def bytes1to8 : Vector Byte 8 := #v[1, 2, 3, 4, 5, 6, 7, 8]

/-- RT1: `EF.CD.AB.89.67.45.23.01` is 0x0123456789ABCDEF. -/
theorem test_raw64 : raw64 #v[0xEF, 0xCD, 0xAB, 0x89, 0x67, 0x45, 0x23, 0x01] = 0x0123456789ABCDEF := by decide

/-- EX7 (a field over a byte boundary) and EX12 (out of range). -/
theorem test_extract :
    (rspOf .reset ⟨.extract, [.data bytes1to8, .sb 19, .bl 8], none⟩).map (·.value) = some 0x30 ∧
    (rspOf .reset ⟨.extract, [.data bytes1to8, .sb 14, .bl 16], none⟩).map (·.value) = some 0 := by decide
/-- EX14, EX3. -/
theorem test_extract_zero_extends :
    extract 0xFFFFFFFFFFFFFFFF 63 16 = 0xFFFF ∧ extract (raw64 bytes1to8) 0 1 = 1 := by decide
/-- RT1 and ST1. -/
theorem test_set :
    (rspOf .reset ⟨.set, [.data #v[0xEF, 0xCD, 0xAB, 0x89, 0x67, 0x45, 0x23, 0x01], .sb 40, .bl 12, .val 0x1FFF], none⟩).map
      (·.data) = some 0x012345FFE9ABCDEF ∧
    (rspOf .reset ⟨.set, [.data bytes1to8, .sb 14, .bl 16, .val 5], none⟩).map (·.data) = some 0x0807060504030201 := by
  decide
/-- RT7. -/
theorem test_set_masks : setField (raw64 bytes1to8) 39 12 0xFFFFFFFF = raw64 #v[1, 2, 3, 0xF4, 0xFF, 6, 7, 8] := by decide

/-- CT1 (from Shutdown with levels applied). -/
theorem test_init :
    (after { State.reset with shutdown := true, out := ⟨⟨true, true, true, false⟩, true, 7⟩ } ⟨.init, [], some 5000⟩).map
      (fun t => (t.writes, t.shutdown, t.btn.lastChangeTime, t.out, t.veh.cur)) =
    some ([⟨.lamp, false⟩, ⟨.toolbox, false⟩, ⟨.parkedInd, false⟩, ⟨.unlockedInd, false⟩], false, 5000, outputReset,
      ⟨0xFF, 0xFF, 1, 0xFF⟩) := by decide

/-- LM5; VG2 (32 identifier bits are compared). -/
theorem test_decodeLamp :
    (rspOf .reset ⟨.decodeLamp, [.id 0x3C3, .len 8, .data #v[0, 0, 0, 0, 0, 0, 0x02, 0xC0]], some 1000⟩).map (·.record) =
      some ⟨true, 0, 3, 2, 1000⟩ ∧
    (rspOf .reset ⟨.decodeLamp, [.id 0x100003C3, .len 8, .data #v[0, 4, 0, 0, 0, 0, 0, 0]], some 1000⟩).map
      (·.record.valid) = some false := by decide
/-- LK3 and LK7. -/
theorem test_decodeLock :
    (rspOf .reset ⟨.decodeLock, [.id 0x331, .len 8, .data #v[0, 0, 0, 0, 0x05, 0, 0, 0]], some 5⟩).map (·.record) =
      some ⟨true, 2, 0, 0, 5⟩ ∧
    (rspOf .reset ⟨.decodeLock, [.id 0x331, .len 9, .data #v[0, 0, 0, 0, 0x02, 0, 0, 0]], some 5⟩).map
      (·.record.valid) = some false := by decide
/-- PK2 and PK3. -/
theorem test_decodePark :
    (rspOf .reset ⟨.decodePark, [.id 0x176, .len 8, .data #v[0, 0, 0, 0xF0, 0, 0, 0, 0]], some 7⟩).map (·.record) =
      some ⟨true, 15, 0, 0, 7⟩ ∧
    (rspOf .reset ⟨.decodePark, [.id 0x176, .len 8, .data #v[0, 0, 0, 0x0F, 0, 0, 0, 0]], some 7⟩).map (·.record) =
      some ⟨true, 0, 0, 0, 7⟩ := by decide
/-- BT2; BT7 (8-bit variant: range invalid, the field is kept). -/
theorem test_decodeBatt :
    (rspOf .reset ⟨.decodeBatt, [.id 0x43C, .len 8, .data #v[0, 0, 0xD5, 0, 0, 0, 0, 0]], some 9⟩).map (·.record) =
      some ⟨true, 85, 0, 0, 9⟩ ∧
    (rspOf { State.reset with cfg := { Config.default with sigBatt := ⟨23, 8⟩ } }
      ⟨.decodeBatt, [.id 0x43C, .len 8, .data #v[0, 0, 0xD5, 0, 0, 0, 0, 0]], some 9⟩).map (·.record) =
      some ⟨false, 213, 0, 0, 9⟩ := by decide

/-- UP1. -/
theorem test_updateLamp :
    (after .reset ⟨.updateLamp, [.rv true, .f0 2, .rts 400], none⟩).map
      (fun t => (t.veh.cur, t.veh.prev, t.veh.ts, t.veh.seen, t.veh.lampShouldBeOn)) =
    some (⟨2, 0xFF, 1, 0xFF⟩, ⟨0xFF, 0xFF, 0xFF, 0xFF⟩, ⟨400, 0, 0, 0⟩, ⟨true, false, false, false⟩, true) := by decide
/-- UP3: an invalid record is ignored. -/
theorem test_updateLamp_invalid :
    (after .reset ⟨.updateLamp, [.f0 1, .rts 600], none⟩).map (·.veh) = some State.reset.veh := by decide
/-- UP4. -/
theorem test_updateLock :
    (after .reset ⟨.updateLock, [.rv true, .f0 0x102, .rts 1], none⟩).map
      (fun t => (t.veh.cur.lock, t.veh.isUnlocked)) = some (0x02, true) := by decide
/-- The table of 1.3: only code 1 is parked; `prev` takes the reset park code. -/
theorem test_updatePark :
    (after .reset ⟨.updatePark, [.rv true, .f0 0, .rts 1], none⟩).map
      (fun t => (t.veh.cur.park, t.veh.prev.park, t.veh.isParked)) = some (0, 1, false) := by decide
/-- UP5. -/
theorem test_updateBatt :
    (after .reset ⟨.updateBatt, [.rv true, .f0 85, .rts 10], none⟩).map
      (fun t => (t.veh.cur.batt, t.veh.seen, t.veh.isUnlocked, t.veh.isParked, t.veh.lampShouldBeOn)) =
    some (85, ⟨false, false, false, true⟩, false, true, false) := by decide

/-- FI3. -/
theorem test_frameIn :
    (after .reset ⟨.frameIn, [.id 0x176, .len 8, .data #v[0, 0, 0, 0x50, 0, 0, 0, 0]], some 10⟩).map
      (fun t => (t.rsp.map (fun r => (r.matched, r.src, r.record)), t.veh.cur.park, t.veh.prev.park, t.veh.isParked)) =
    some (some (true, 2, ⟨true, 5, 0, 0, 10⟩), 5, 1, false) := by decide
/-- FI1 and FI2: the registers are unchanged. -/
theorem test_frameIn_ignored :
    (after .reset ⟨.frameIn, [.id 0x123, .len 8], some 10⟩).map (fun t => (t.rsp, t.veh)) =
      some (some Response.zero, State.reset.veh) ∧
    (after .reset ⟨.frameIn, [.id 0x331, .len 7, .data #v[0, 0, 0, 0, 5, 0, 0, 0]], some 10⟩).map
      (fun t => (t.rsp.map (fun r => (r.matched, r.src, r.record.valid)), t.veh)) =
      some (some (true, 1, false), State.reset.veh) := by decide

/-- The set-up of RD4: the lock seen at 0xFFFFFF00. -/
def lockSeenBeforeWrap : State :=
  { State.reset with veh := { State.reset.veh with ts := ⟨0, 0xFFFFFF00, 0, 0⟩, seen := ⟨false, true, false, false⟩ } }

/-- RD4 and RD5: the boundary across the wrap. -/
theorem test_recomputeReady :
    (after lockSeenBeforeWrap ⟨.recomputeReady, [], some 0x000926BF⟩).map
      (fun t => (t.rsp.map (·.value), t.veh.systemReady)) = some (some 1, true) ∧
    (after lockSeenBeforeWrap ⟨.recomputeReady, [], some 0x000926C0⟩).map
      (fun t => (t.rsp.map (·.value), t.veh.systemReady)) = some (some 0, false) := by decide
/-- RR1 and RR3. -/
theorem test_recomputeReady_unseen :
    (rspOf .reset ⟨.recomputeReady, [], some 0⟩).map (·.value) = some 0 ∧
    (rspOf { lockSeenBeforeWrap with cfg := { Config.default with readyPolicy := .all } }
      ⟨.recomputeReady, [], some 0xFFFFFF00⟩).map (·.value) = some 0 := by decide
/-- TF1. -/
theorem test_touchFreshness :
    (after .reset ⟨.touchFreshness, [], some 7000⟩).map (fun t => (t.veh.ts, t.veh.seen, t.veh.cur)) =
    some (⟨7000, 7000, 7000, 7000⟩, ⟨true, true, true, true⟩, ⟨0xFF, 0xFF, 1, 0xFF⟩) := by decide
/-- R142 on the state of RD4. -/
theorem test_snapshot :
    (rspOf lockSeenBeforeWrap ⟨.snapshot, [], none⟩).map (·.snap) =
    some (.vehicle lockSeenBeforeWrap.veh outputReset false) := by decide

/-- DB2's state: the level 1 sampled at 100, not committed. -/
def sampledAt100 : State := { State.reset with btn := { buttonReset 0 with rawState := true, lastChangeTime := 100 } }

/-- DB3's state: press committed at 150. -/
def pressedAt150 : State :=
  { State.reset with btn := { buttonReset 0 with
      rawState := true, debouncedState := true, lastChangeTime := 100, pressedEdge := true, pressCount := 1
      lastPressTime := 150, hasPrevPress := true } }

/-- DB2 at 149, and DB3 at 150 with DC6 (no double click on the first press). -/
theorem test_buttonPoll_press :
    (after sampledAt100 ⟨.buttonPoll, [.btn true], some 149⟩).map (fun t => (t.btn.debouncedState, t.btn.pressedEdge)) =
      some (false, false) ∧
    (after sampledAt100 ⟨.buttonPoll, [.btn true], some 150⟩).map (·.btn) = some pressedAt150.btn := by decide
/-- HD1 and HD2. -/
theorem test_buttonPoll_hold :
    (after pressedAt150 ⟨.buttonPoll, [.btn true], some 1150⟩).map
      (fun t => (t.rsp.map (·.heldEv), t.btn.holdDurationMs, t.btn.isHeld)) = some (some false, 1000, false) ∧
    (after pressedAt150 ⟨.buttonPoll, [.btn true], some 1151⟩).map
      (fun t => (t.rsp.map (·.heldEv), t.btn.holdDurationMs, t.btn.isHeld)) = some (some true, 1001, true) := by decide
/-- RC1, RC2. -/
theorem test_readPressed :
    (after pressedAt150 ⟨.readPressed, [], none⟩).map (fun t => (t.rsp.map (·.value), t.btn.pressedEdge)) =
      some (some 1, false) ∧
    (rspOf .reset ⟨.readPressed, [], none⟩).map (·.value) = some 0 := by decide
/-- P4 line 15. -/
theorem test_readReleased :
    (after { State.reset with btn := { buttonReset 0 with releasedEdge := true, pressedEdge := true } }
      ⟨.readReleased, [], none⟩).map (fun t => (t.rsp.map (·.value), t.btn.releasedEdge, t.btn.pressedEdge)) =
    some (some 1, false, true) := by decide
/-- P4 lines 7 and 8. -/
theorem test_readDouble :
    (after { State.reset with btn := { buttonReset 0 with doubleClickPending := true } } ⟨.readDouble, [], none⟩).map
      (fun t => (t.rsp.map (·.value), t.btn.doubleClickPending)) = some (some 1, false) := by decide
/-- BS1. -/
theorem test_buttonStatus :
    (rspOf .reset ⟨.buttonStatus, [], none⟩).map (·.snap) =
    some (.button ⟨false, false, false, false, 0, 0, 0, 0, false, false⟩) := by decide

/-- A ready state with these flags and levels. -/
def readyWith (lamp parked unlocked : Bool) (levels : PerActuator Bool) : State :=
  { State.reset with
    veh := { State.reset.veh with
      systemReady := true, lampShouldBeOn := lamp, isParked := parked, isUnlocked := unlocked }
    out := { outputReset with lastApplied := levels } }

/-- OT1 and OT3. -/
theorem test_outputTick :
    writesOf (readyWith true true false ⟨false, false, false, false⟩) ⟨.outputTick, [], none⟩ =
      some [⟨.lamp, true⟩, ⟨.parkedInd, true⟩] ∧
    writesOf (readyWith false true true ⟨true, false, true, false⟩) ⟨.outputTick, [], none⟩ =
      some [⟨.lamp, false⟩, ⟨.unlockedInd, true⟩] := by decide
/-- FS2: not ready, every state-driven output off. -/
theorem test_outputTick_stale :
    writesOf { readyWith true true true ⟨true, false, true, true⟩ with
        veh := { (readyWith true true true ⟨true, false, true, true⟩).veh with systemReady := false } }
      ⟨.outputTick, [], none⟩ = some [⟨.lamp, false⟩, ⟨.parkedInd, false⟩, ⟨.unlockedInd, false⟩] := by decide

/-- A ready, parked, unlocked state with a pending press edge and this pulse. -/
def pressPending (active : Bool) (start : Time) : State :=
  { readyWith false true true ⟨false, active, false, false⟩ with
    btn := { buttonReset 0 with pressedEdge := true, hasPrevPress := true }
    out := ⟨⟨false, active, false, false⟩, active, start⟩ }

/-- TE3 and TE4. -/
theorem test_toolboxEval :
    (after (pressPending false 0) ⟨.toolboxEval, [], some 1000⟩).map
      (fun t => (t.rsp.map (·.value), t.writes, t.out.toolboxActive, t.out.toolboxStart, t.btn.pressedEdge)) =
      some (some 1, [⟨.toolbox, true⟩], true, 1000, false) ∧
    (after (pressPending true 1000) ⟨.toolboxEval, [], some 1200⟩).map
      (fun t => (t.rsp.map (·.value), t.writes, t.out.toolboxStart)) = some (some 1, [], 1000) := by decide
/-- TE1: the edge is consumed while the gate is closed. -/
theorem test_toolboxEval_closed :
    (after { pressPending false 0 with veh := { (pressPending false 0).veh with systemReady := false } }
      ⟨.toolboxEval, [], some 100⟩).map (fun t => (t.rsp.map (·.value), t.writes, t.btn.pressedEdge)) =
    some (some 0, [], false) := by decide
/-- TG3 and TG4: across the wrap. -/
theorem test_toolboxTimer :
    writesOf (pressPending true 0xFFFFFF9C) ⟨.toolboxTimer, [], some 399⟩ = some [] ∧
    writesOf (pressPending true 0xFFFFFF9C) ⟨.toolboxTimer, [], some 400⟩ = some [⟨.toolbox, false⟩] := by decide
/-- The table of 1.7: one of eight. -/
theorem test_mayActivate :
    [0, 1, 2, 3, 4, 5, 6, 7].map (fun n : Nat =>
      (rspOf .reset ⟨.mayActivate, [.pred (n / 4 % 2 == 1) (n / 2 % 2 == 1) (n % 2 == 1)], none⟩).map (·.value)) =
    [some 0, some 0, some 0, some 0, some 0, some 0, some 0, some 1] := by decide
/-- WD1, SD1. -/
theorem test_safeShutdown :
    (after { State.reset with out := ⟨⟨true, true, true, false⟩, true, 5⟩ } ⟨.safeShutdown, [], none⟩).map
      (fun t => (t.writes, t.out.lastApplied, t.out.toolboxActive, t.shutdown)) =
    some ([⟨.lamp, false⟩, ⟨.toolbox, false⟩, ⟨.parkedInd, false⟩, ⟨.unlockedInd, false⟩],
      ⟨false, false, false, false⟩, false, true) := by decide
/-- SD4: a suppressed command changes nothing. -/
theorem test_suppressed :
    (after { pressPending true 0 with shutdown := true } ⟨.toolboxTimer, [], some 500⟩).map
      (fun t => (t.rsp, t.writes, t.out.toolboxActive)) = some (some { Response.zero with shut := true }, [], true) := by
  decide
/-- The state after one step that finds this entry of the host. -/
def afterEvent (s : State) (e : Event) : Option State :=
  match step { s with host := [e] } with
  | .next t => some t
  | _ => none

/-- R220 with log 5: an assertion holds the block and keeps the registers; a release without an assertion is no reset. -/
theorem test_resetInput_level :
    (afterEvent pressedAt150 (.resetInput true 9)).map (fun t => (t.resetHeld, t.rsp, t.writes, t.btn)) =
      some (true, none, [], pressedAt150.btn) ∧
    (afterEvent pressedAt150 (.resetInput false 9)).map (fun t => (t.resetHeld, t.rsp, t.writes, t.btn)) =
      some (false, none, [], pressedAt150.btn) := by decide
/-- R220: the release of an asserted input loads R47 with t0 = now; a command before it (here INIT) is not accepted. -/
theorem test_resetInput_release :
    (afterEvent { pressedAt150 with resetHeld := true } (.resetInput false 9)).map
      (fun t => (t.resetHeld, t.rsp, t.writes, t.btn)) = some (false, none, [], buttonReset 9) ∧
    (afterEvent { pressedAt150 with resetHeld := true } (.command 0x03 InPorts.zero)).map
      (fun t => (t.resetHeld, t.rsp, t.writes, t.btn)) = some (true, none, [], pressedAt150.btn) := by decide

/-- P6: the expansions of ticks T1 and T2. -/
theorem test_tick :
    (tick Config.default none [⟨0x176, 8, bytes1to8⟩, ⟨0x331, 8, bytes1to8⟩] true 1000).map
      (fun r => (r.1.map (fun l => encode l.instr), r.2)) =
      some ([0x0C, 0x0C, 0x0D, 0x10, 0x19, 0x1A, 0x18], some 1000) ∧
    (tick Config.default (some 1000) [] true 1050).map (fun r => (r.1.map (fun l => encode l.instr), r.2)) =
      some ([0x0D, 0x10, 0x19, 0x1A], some 1000) := by decide

/-! ## Witnesses: concrete states and operands that meet the hypotheses of the obligations -/

/-- `State.reset` with these entries from the host. -/
def presented (evs : List Event) : State := { State.reset with host := evs }

theorem witness_CommandWordRoundTrip : decode 0x1C = .ok .safeShutdown := by decide

theorem witness_StepExecutesDecodedCommand :
    let s := presented [.command 0x0D { InPorts.zero with now := 5 }]
    s.cfg.legal = true ∧ s.resetHeld = false ∧ s.host = .command 0x0D { InPorts.zero with now := 5 } :: [] ∧
    decode 0x0D = .ok .recomputeReady := by decide

theorem witness_IllegalWordRaisesIllegalCommand :
    let s := presented [.command 0x20 InPorts.zero]
    let s' := presented [.command 0x1F InPorts.zero]
    s.cfg.legal = true ∧ s.resetHeld = false ∧ s.host = .command 0x20 InPorts.zero :: [] ∧
    (0x20#8).extractLsb' 5 3 ≠ 0 ∧
    s'.cfg.legal = true ∧ s'.resetHeld = false ∧ s'.host = .command 0x1F InPorts.zero :: [] ∧
    (0x1F#8).extractLsb' 0 5 ∈ ([0x00, 0x15, 0x16, 0x17, 0x1D, 0x1E, 0x1F] : List (BitVec 5)) := by decide

theorem witness_LegalBlockNeverStops : State.reset.cfg.legal = true := by decide

theorem witness_NoStepChangesConfiguration : step State.reset = .next State.reset.quiet := by rfl

theorem witness_IdleHoldsEveryRegister :
    (presented [.idle]).cfg.legal = true ∧ (presented [.idle]).host = .idle :: [] := by decide

theorem witness_EmptyHostIsIdle : (presented []).cfg.legal = true ∧ (presented []).host = [] := by decide

/-- One witness for each clause: a release after an assertion, an assertion, a release without one, a command meanwhile. -/
theorem witness_HardwareResetLoadsResetValues :
    let s := { presented [.resetInput false 42] with resetHeld := true }
    let u := { presented [.command 0x03 InPorts.zero] with resetHeld := true }
    (s.cfg.legal = true ∧ s.resetHeld = true ∧ s.host = .resetInput false 42 :: []) ∧
    ((presented [.resetInput true 42]).cfg.legal = true ∧
      (presented [.resetInput true 42]).host = .resetInput true 42 :: []) ∧
    ((presented [.resetInput false 42]).cfg.legal = true ∧ (presented [.resetInput false 42]).resetHeld = false ∧
      (presented [.resetInput false 42]).host = .resetInput false 42 :: []) ∧
    (u.cfg.legal = true ∧ u.resetHeld = true ∧ u.host = .command 0x03 InPorts.zero :: []) := by decide

theorem witness_ResetStateHoldsTableValues :
    (∀ k, Reg.isUnlocked ≠ .cur k) ∧ (∀ k, Reg.isUnlocked ≠ .prev k) ∧ Reg.isUnlocked ≠ .isParked := by
  refine ⟨?_, ?_, ?_⟩ <;> simp

theorem witness_FrameViewIsLittleEndian : 7 < 8 ∧ 0 + 8 ≤ 8 ∧ 7 + 1 ≤ 8 ∧ (6 < 7 ∨ 7 + 1 ≤ 6) := by decide

/-- The ports of a codec command with this place. -/
def codecState (sb len : Byte) : State :=
  { State.reset with inp := { InPorts.zero with bfStart := sb, bfLen := len, bfValue := 0xABCD } }

theorem witness_SetThenExtractReturnsValue :
    (1 ≤ (codecState 63 16).inp.bfLen.toNat ∧ (codecState 63 16).inp.bfLen.toNat ≤ 16 ∧
      (codecState 63 16).inp.bfStart.toNat ≤ 63 ∧
      (codecState 63 16).inp.bfLen.toNat ≤ (codecState 63 16).inp.bfStart.toNat + 1) ∧
    (1 ≤ (codecState 0 1).inp.bfLen.toNat ∧ (codecState 0 1).inp.bfLen.toNat ≤ 16 ∧
      (codecState 0 1).inp.bfStart.toNat ≤ 63 ∧
      (codecState 0 1).inp.bfLen.toNat ≤ (codecState 0 1).inp.bfStart.toNat + 1) := by decide

theorem witness_CodecAndDecodersReadNoRegister :
    Instr.decodeBatt ∈ [Instr.extract, .set, .decodeLamp, .decodeLock, .decodePark, .decodeBatt, .mayActivate] ∧
    State.reset.inp = pressedAt150.inp ∧ State.reset.cfg = pressedAt150.cfg ∧ State.reset.btn ≠ pressedAt150.btn := by
  decide

/-- A lock frame with this length on the ports. -/
def lockFrame (len : Byte) : State :=
  { State.reset with inp := { InPorts.zero with frameId := 0x331, frameLen := len, frameData := 0x500000000 } }

theorem witness_SingleSignalDecodersReturnRecord :
    (lockFrame 8).cfg.legal = true ∧
    (Instr.decodeLock, (lockFrame 8).cfg.id.lock, (lockFrame 8).cfg.sigLock, (lockFrame 8).cfg.maxLock) ∈
      [(Instr.decodeLock, (lockFrame 8).cfg.id.lock, (lockFrame 8).cfg.sigLock, (lockFrame 8).cfg.maxLock),
       (.decodePark, (lockFrame 8).cfg.id.park, (lockFrame 8).cfg.sigPark, (lockFrame 8).cfg.maxPark),
       (.decodeBatt, (lockFrame 8).cfg.id.batt, (lockFrame 8).cfg.sigBatt, (lockFrame 8).cfg.battMax)] ∧
    ((lockFrame 8).inp.frameId = (lockFrame 8).cfg.id.lock ∧ (lockFrame 8).inp.frameLen = 8) ∧
    ((lockFrame 7).inp.frameId ≠ (lockFrame 7).cfg.id.lock ∨ (lockFrame 7).inp.frameLen ≠ 8) := by decide

theorem witness_LampDecoderReturnsRecord :
    let s := { State.reset with inp := { InPorts.zero with frameId := 0x3C3, frameLen := 8 } }
    s.cfg.legal = true ∧ s.inp.frameId = s.cfg.id.lamp ∧ s.inp.frameLen = 8 ∧
    ((lockFrame 8).inp.frameId ≠ (lockFrame 8).cfg.id.lamp ∨ (lockFrame 8).inp.frameLen ≠ 8) := by decide

theorem witness_FrameInDecodesAndUpdates :
    let s := { State.reset with inp := { InPorts.zero with frameId := 0x123 } }
    s.cfg.legal = true ∧ (∀ k : Source, s.inp.frameId ≠ s.cfg.id.get k) ∧
    (lockFrame 8).cfg.legal = true ∧ (lockFrame 8).inp.frameId = (lockFrame 8).cfg.id.get .lock :=
  ⟨by decide, fun k => by cases k <;> decide, by decide, by decide⟩

theorem witness_DecodeThenUpdateEqualsFrameIn :
    State.reset.cfg.legal = true ∧ (⟨0x43C, 8, bytes1to8⟩ : Frame).id = State.reset.cfg.id.get .batt := by decide

theorem witness_UpdateStoresRecordAndOwnedFlag :
    Instr.updateBatt ∈ [Instr.updateLamp, .updateLock, .updatePark, .updateBatt] ∧ State.reset.inp.recValid = false ∧
    { State.reset with inp := { InPorts.zero with recValid := true } }.inp.recValid = true := by decide

theorem witness_RecomputeReadyFollowsPolicy :
    State.reset.cfg.readyPolicy = .any ∧
    { State.reset with cfg := { Config.default with readyPolicy := .all } }.cfg.readyPolicy = .all := by decide

/-- RD4 to RD6: the state of RD4 with this time on the port. -/
def lockSeenAt (now : Time) : State := { lockSeenBeforeWrap with inp := { InPorts.zero with now := now } }

/-- The hypotheses of `ReadinessEndsAtTimeout` at the time port `now`. -/
def readinessHyps (now : Time) (d : Nat) : Prop :=
  let s := lockSeenAt now
  s.cfg.readyPolicy = .any ∧ s.veh.seen.get .lock = true ∧ 1 ≤ s.cfg.readyTimeoutMs.get .lock ∧
  s.cfg.readyTimeoutMs.get .lock + 1 < 2 ^ s.cfg.W ∧
  d ∈ [s.cfg.readyTimeoutMs.get .lock - 1, s.cfg.readyTimeoutMs.get .lock, s.cfg.readyTimeoutMs.get .lock + 1] ∧
  s.inp.now = (s.veh.ts.get .lock + d) % 2 ^ s.cfg.W ∧
  ∀ j : Source, j ≠ .lock → ¬ (s.veh.seen.get j = true ∧
    elapsed s.cfg.W s.inp.now (s.veh.ts.get j) < s.cfg.readyTimeoutMs.get j)

theorem witness_ReadinessEndsAtTimeout :
    readinessHyps 0x000926BF 599999 ∧ readinessHyps 0x000926C0 600000 ∧ readinessHyps 0x000926C1 600001 := by
  refine ⟨?_, ?_, ?_⟩ <;>
    exact ⟨by decide, by decide, by decide, by decide, by decide, by decide, fun j h => by cases j <;> revert h <;> decide⟩

/-- DB2's and DB3's states with this level and time on the ports. -/
def pollPorts (s : State) (btn : Bool) (now : Time) : State :=
  { s with inp := { InPorts.zero with btnPressed := btn, now := now } }

/-- A release sampled at 200 after the press of DB3. -/
def releasedAt200 : State :=
  { pressedAt150 with btn := { pressedAt150.btn with rawState := false, lastChangeTime := 200 } }

theorem witness_PollPressEdge :
    (pollPorts sampledAt100 true 150).btn.debouncedState = false ∧ (pollPorts sampledAt100 true 150).pollLevel = true := by
  decide
theorem witness_PollReleaseEdge :
    (pollPorts releasedAt200 false 250).btn.debouncedState = true ∧
    (pollPorts releasedAt200 false 250).pollLevel = false := by decide
theorem witness_PollHoldStep :
    (pollPorts pressedAt150 true 1151).btn.debouncedState = true ∧ (pollPorts pressedAt150 true 1151).pollLevel = true := by
  decide
theorem witness_PollWhileReleased :
    (pollPorts sampledAt100 true 149).btn.debouncedState = false ∧
    (pollPorts sampledAt100 true 149).pollLevel = false := by decide

/-- DB2 and DB3: polls at 149 (49 ms) commit nothing, the poll at 150 (50 ms) commits. -/
theorem witness_DebounceCommitsStableLevelOnly :
    true ≠ (buttonReset 0).rawState ∧ true ≠ (buttonReset 0).debouncedState ∧ 0 < Config.default.debounceMs ∧
    (∀ q ∈ [100, 149], elapsed Config.default.W q 100 < Config.default.debounceMs) ∧
    Config.default.debounceMs ≤ elapsed Config.default.W 150 100 := by decide

/-- DC2 after press 1: the polls up to the second press edge at 449. -/
theorem witness_DoubleClickNeedsShortUnheldPress :
    let polls := [(200, false), (250, false), (399, true)]
    pressedAt150.btn.debouncedState = true ∧ pressedAt150.btn.hasPrevPress = true ∧ pressedAt150.btn.isHeld = false ∧
    (∀ r ∈ pollTrace Config.default pressedAt150.btn polls, r.1.rose = false) ∧
    ((pollEnd Config.default pressedAt150.btn polls).poll Config.default 449 true).1.rose = true := by decide

theorem witness_OutputTickAppliesTargetsOnChange :
    State.reset.shutdown = false ∧ { State.reset with shutdown := true }.shutdown = true := by decide
theorem witness_StaleDataForcesOutputsOff :
    State.reset.veh.systemReady = false ∧ State.reset.shutdown = false := by decide
theorem witness_ToolboxEvalStartsPulse :
    (pressPending false 0).shutdown = false ∧ (pressPending false 0).toolboxGo = true ∧
    { pressPending false 0 with shutdown := true }.shutdown = true := by decide
theorem witness_ToolboxTimerEndsPulse :
    let s := { pressPending true 1000 with inp := { InPorts.zero with now := 1500 } }
    s.shutdown = false ∧ s.out.toolboxActive = true ∧ s.cfg.toolboxMs ≤ elapsed s.cfg.W s.inp.now s.out.toolboxStart ∧
    { s with shutdown := true }.shutdown = true := by decide

/-- TG3 and TG4. -/
theorem witness_PulseLastsToolboxTime :
    let s := { pressPending true 0xFFFFFF9C with inp := { InPorts.zero with now := 399 } }
    let s' := { pressPending true 0xFFFFFF9C with inp := { InPorts.zero with now := 400 } }
    (s.shutdown = false ∧ s.out.toolboxActive = true ∧ 1 ≤ s.cfg.toolboxMs ∧ s.cfg.toolboxMs < 2 ^ s.cfg.W ∧
      s.inp.now = (s.out.toolboxStart + s.cfg.toolboxMs - 1) % 2 ^ s.cfg.W) ∧
    (s'.shutdown = false ∧ s'.out.toolboxActive = true ∧ 1 ≤ s'.cfg.toolboxMs ∧ s'.cfg.toolboxMs < 2 ^ s'.cfg.W ∧
      s'.inp.now = (s'.out.toolboxStart + s'.cfg.toolboxMs) % 2 ^ s'.cfg.W) := by decide

/-- `State.reset` in Shutdown mode with these entries from the host. -/
def presentedShut (evs : List Event) : State := { presented evs with shutdown := true }

theorem witness_ShutdownSuppressesActuatorCommands :
    (presentedShut []).shutdown = true ∧ Instr.toolboxTimer ∈ [Instr.outputTick, .toolboxEval, .toolboxTimer] ∧
    Instr.init ∉ [Instr.outputTick, .toolboxEval, .toolboxTimer] := by decide

/-- Whether a step answers a next state in this mode. -/
def entersMode (s : State) (mode : Bool) : Bool :=
  match step s with
  | .next t => t.shutdown == mode
  | _ => false

theorem witness_ModeChangesOnlyByItsCommands :
    ((presented [.command 0x1C InPorts.zero]).shutdown = false ∧
      entersMode (presented [.command 0x1C InPorts.zero]) true = true) ∧
    ((presentedShut [.command 0x03 InPorts.zero]).shutdown = true ∧
      entersMode (presentedShut [.command 0x03 InPorts.zero]) false = true) ∧
    (let s := { presentedShut [.resetInput false 9] with resetHeld := true }
     s.shutdown = true ∧ entersMode s false = true) := by decide

/-- Whether a step answers a next state with these edge flags. -/
def leavesEdges (s : State) (pressed released double : Bool) : Bool :=
  match step s with
  | .next t => t.btn.pressedEdge == pressed && t.btn.releasedEdge == released && t.btn.doubleClickPending == double
  | _ => false

/-- Every edge flag set, with this entry from the host. -/
def edgesSet (e : Event) : State :=
  { presented [e] with btn := { buttonReset 0 with
      pressedEdge := true, releasedEdge := true, doubleClickPending := true, hasPrevPress := true } }

theorem witness_EdgeFlagsClearedOnlyByTheirReads :
    leavesEdges (edgesSet (.command 0x11 InPorts.zero)) false true true = true ∧
    leavesEdges (edgesSet (.command 0x19 InPorts.zero)) false true true = true ∧
    leavesEdges (edgesSet (.command 0x12 InPorts.zero)) true false true = true ∧
    leavesEdges (edgesSet (.command 0x13 InPorts.zero)) true true false = true ∧
    leavesEdges (edgesSet (.command 0x03 InPorts.zero)) false false false = true ∧
    leavesEdges { edgesSet (.resetInput false 9) with resetHeld := true } false false false = true := by decide

theorem witness_CommandWritesOnlyListedRegisters :
    stateWritten State.reset .updateLamp .isUnlocked = false ∧
    stateWritten (lockFrame 8) .frameIn (.cur .lamp) = false ∧
    stateWritten State.reset .outputTick (.lastApplied .toolbox) = false := by decide

theorem witness_ResponseFieldsBelongToTheirCommands :
    (rspOf (presentedShut []) ⟨.outputTick, [], none⟩).map (·.shut) = some true ∧
    (rspOf pressedAt150 ⟨.buttonPoll, [.btn true], some 1151⟩).map (·.heldEv) = some true := by decide

theorem witness_WritesChangeTheLevel :
    Instr.outputTick ≠ .init ∧ Instr.outputTick ≠ .safeShutdown ∧
    (readyWith true true true ⟨false, false, false, false⟩).out.lastApplied.toolbox =
      (readyWith true true true ⟨false, false, false, false⟩).out.toolboxActive ∧
    writesOf (readyWith true true true ⟨false, false, false, false⟩) ⟨.outputTick, [], none⟩ =
      some [⟨.lamp, true⟩, ⟨.parkedInd, true⟩, ⟨.unlockedInd, true⟩] := by decide

/-- Whether a step raises an actuator's level. -/
def raises (s : State) (a : Actuator) : Bool :=
  match step s with
  | .next t => !s.actLevel a && t.actLevel a
  | _ => false

theorem witness_ActuatorRisesOnlyWhenReady :
    let s := { readyWith true true true ⟨false, false, false, false⟩ with host := [.command 0x18 InPorts.zero] }
    let s' := { pressPending false 0 with host := [.command 0x19 InPorts.zero] }
    raises s .lamp = true ∧ raises s .parkedInd = true ∧ raises s .unlockedInd = true ∧ raises s' .toolbox = true := by
  decide

/-- A state of the invariant that is not the reset state: a pulse is running after a committed press. -/
def pulseRunning : State :=
  { pressedAt150 with
    veh := { State.reset.veh with
      cur := ⟨1, 2, 1, 0xFF⟩, lampShouldBeOn := true, isUnlocked := true, systemReady := true }
    out := ⟨⟨true, true, true, true⟩, true, 150⟩
    host := [.command 0x1A { InPorts.zero with now := 650 }] }

theorem witness_EveryStepKeepsMachineInvariant : pulseRunning.Inv ∧ ∃ t, step pulseRunning = .next t := by
  refine ⟨⟨by unfold sentinelNeutral; decide, ⟨fun k => by cases k <;> decide, ?_, ?_, ?_, ?_, ?_⟩, ⟨?_, ?_, ?_⟩, ⟨?_, ?_⟩,
    ⟨?_, ?_, ?_, ?_⟩⟩, ⟨_, rfl⟩⟩ <;> decide

theorem witness_TickExpandsToCommands :
    (List.replicate 10 (⟨0x331, 8, bytes1to8⟩ : Frame)).length ≤ Config.default.maxFramesPerTick ∧
    ([] : List Frame).length ≤ Config.default.maxFramesPerTick := by decide

end Sys2Proof.Tests
end

/-! ## Proofs: the scope of the block (spec 00_scope.md R5, R6, R11)

No command of the block stops, and none writes the configuration; so an entry of the host served always gives a next state with
the same configuration, and the check of the configuration is all that can refuse a step. -/

namespace Sys2Proof.Machine

/-- Every command completes in every state and keeps the configuration (R5; 60_exceptions.md R200). -/
theorem exec_completes (i : Instr) (s : State) : ∃ t, exec i s = .next t ∧ t.cfg = s.cfg := by
  cases i with
  | frameIn => rcases frameIn_cases s with ⟨-, e⟩ | ⟨k, -, e⟩ <;> exact ⟨_, e, rfl⟩
  | outputTick =>
    rcases outputTick_cases s with ⟨-, e⟩ | ⟨-, e⟩
    · exact ⟨_, e, rfl⟩
    · exact ⟨_, e, by simp⟩
  | toolboxEval => rcases toolboxEval_cases s with ⟨-, e⟩ | ⟨-, -, -, e⟩ | ⟨-, -, e⟩ <;> exact ⟨_, e, rfl⟩
  | toolboxTimer => rcases toolboxTimer_cases s with ⟨-, e⟩ | ⟨-, -, e⟩ | ⟨-, -, e⟩ <;> exact ⟨_, e, rfl⟩
  | _ => exact ⟨_, rfl, rfl⟩

/-- Every word, legal or not, completes and keeps the configuration. -/
theorem execWord_completes (cmd : Byte) (s : State) : ∃ t, execWord cmd s = .next t ∧ t.cfg = s.cfg := by
  unfold execWord
  split
  · exact exec_completes _ s
  · exact ⟨_, rfl, rfl⟩

@[simp] theorem State.driveReset_cfg (s : State) (level : Bool) (now : Time) : (s.driveReset level now).cfg = s.cfg := by
  rcases s.driveReset_cases level now with ⟨-, -, e⟩ | ⟨-, e⟩ <;> rw [e] <;> rfl

/-- Whatever the host presents, serving it answers a next state and keeps the configuration. -/
theorem State.serve_completes (s : State) : ∃ t, s.serve = .next t ∧ t.cfg = s.cfg := by
  unfold State.serve
  split
  · exact ⟨_, rfl, rfl⟩
  · exact ⟨_, rfl, rfl⟩
  · exact ⟨_, rfl, by simp⟩
  · split
    · exact ⟨_, rfl, rfl⟩
    · exact execWord_completes _ _

/-- With a legal configuration a step answers a next state and keeps the configuration. -/
theorem step_completes {s : State} (hl : s.cfg.legal = true) : ∃ t, step s = .next t ∧ t.cfg = s.cfg := by
  rw [step, if_pos hl]
  exact s.serve_completes

/-- The check of the configuration is all that refuses a step. -/
theorem step_refused_iff (s : State) : step s = .refused .illegalConfig ↔ ¬ s.cfg.legal = true := by
  constructor
  · intro h hl
    obtain ⟨t, ht, -⟩ := step_completes hl
    rw [ht] at h
    cases h
  · exact fun hl => if_neg hl

/-- Settles O5: the configuration check is the only refusal, and it is the conjunction of the clauses. -/
theorem illegalConfigurationRefused : Obligations.IllegalConfigurationRefused := by
  intro s
  simp only [step_refused_iff, legal_iff, widthOk_iff, timesFit_iff, idsDistinct_iff, signalsOk_iff, sigPos_wellFormed_iff,
    battLenOk_iff, sentinelOk_iff, codeParkOk_iff, and_assoc]

/-- Settles O7: a step that answers has a legal configuration, and then its one next state keeps the configuration. -/
theorem noStepChangesConfiguration : Obligations.NoStepChangesConfiguration := by
  intro s t h
  obtain ⟨u, hu, hcfg⟩ := step_completes (step_cases h).1
  rw [hu] at h
  cases h
  exact hcfg

/-- Settles O3: accepting the entry samples its ports and consumes it. -/
theorem stepExecutesDecodedCommand : Obligations.StepExecutesDecodedCommand :=
  fun _ _ _ _ _ hl hr hh hd => step_command hl hr hh hd

end Sys2Proof.Machine

/-! ## Proofs: the registers, their invariant and the mode (spec 10_state.md R29, R46, R47)

The invariant of the machine splits by register group: the vehicle-state, button and output registers each meet a predicate of
their own (`Fits`), and `inv_iff` says that these, with the neutral sentinel, are the whole invariant. A command then needs one
argument, for the group it writes. -/

namespace Sys2Proof.Machine

/-! ### The invariant by register group -/

/-- The part of the invariant about the vehicle-state registers: stored times fit, and the derived flags are pure (R23, R29). -/
structure VehicleRegs.Fits (c : Config) (v : VehicleRegs) : Prop where
  ts : ∀ k, v.ts.get k < 2 ^ c.W
  lamp : v.lampShouldBeOn = lampOn c v.cur.lamp
  lock : v.isUnlocked = unlocked c v.cur.lock
  park : v.isParked = parked c v.cur.park

/-- The part of the invariant about the button registers: the widths of R37 to R40, and the conceptual states of R160. -/
structure ButtonRegs.Fits (c : Config) (b : ButtonRegs) : Prop where
  holdDurationMs : b.holdDurationMs < 2 ^ c.W
  lastPressTime : b.lastPressTime < 2 ^ c.W
  lastChangeTime : b.lastChangeTime < 2 ^ c.W
  pressCount : b.pressCount < 2 ^ c.pressCountW
  held : b.isHeld = true → b.debouncedState = true
  down : b.debouncedState = true → b.hasPrevPress = true
  pressed : b.pressedEdge = true → b.hasPrevPress = true
  double : b.doubleClickPending = true → b.hasPrevPress = true

/-- The part of the invariant about the output registers in a mode: the width of R45, and R180's first two invariants. -/
structure OutputRegs.Fits (c : Config) (shutdown : Bool) (o : OutputRegs) : Prop where
  toolboxStart : o.toolboxStart < 2 ^ c.W
  toolbox : o.lastApplied.toolbox = o.toolboxActive
  shutdownOff : shutdown = true → o.lastApplied = PerActuator.fill false

/-- The machine's invariant is the neutral sentinel and one predicate per register group. -/
theorem State.inv_iff (s : State) :
    s.Inv ↔ sentinelNeutral s.cfg ∧ s.veh.Fits s.cfg ∧ s.btn.Fits s.cfg ∧ s.out.Fits s.cfg s.shutdown := by
  constructor
  · rintro ⟨hn, w, f, o, b⟩
    exact ⟨hn, ⟨w.ts, f.lamp, f.lock, f.park⟩,
      ⟨w.holdDurationMs, w.lastPressTime, w.lastChangeTime, w.pressCount, b.held, b.down, b.pressed, b.double⟩,
      ⟨w.toolboxStart, o.toolbox, o.shutdownOff⟩⟩
  · rintro ⟨hn, v, b, o⟩
    exact ⟨hn, ⟨v.ts, b.holdDurationMs, b.lastPressTime, b.lastChangeTime, o.toolboxStart, b.pressCount⟩,
      ⟨v.lamp, v.lock, v.park⟩, ⟨o.toolbox, o.shutdownOff⟩, ⟨b.held, b.down, b.pressed, b.double⟩⟩

/-- The invariant reads the configuration and the registers only: neither the ports, the outputs, the reset input nor the
host's entries. -/
theorem State.Inv.of_regs_eq {s u : State} (h : s.Inv) (hcfg : u.cfg = s.cfg) (hveh : u.veh = s.veh) (hbtn : u.btn = s.btn)
    (hout : u.out = s.out) (hmode : u.shutdown = s.shutdown) : u.Inv := by
  simpa only [State.inv_iff, hcfg, hveh, hbtn, hout, hmode] using s.inv_iff.1 h

/-! ### Vehicle-state registers -/

/-- R47: the reset flags are the formulas of the reset raw values, for a neutral sentinel. -/
theorem vehicleReset_fits {c : Config} (hn : sentinelNeutral c) : (vehicleReset c).Fits c where
  ts k := by simp [vehicleReset]
  lamp := hn.1.symm
  lock := hn.2.symm
  park := by simp [vehicleReset, parked]

/-- R130: an update with a record whose time fits keeps the group, since it recomputes the one flag its raw value feeds. -/
theorem VehicleRegs.Fits.update {c : Config} {v : VehicleRegs} (h : v.Fits c) (k : Source) {r : Record}
    (hts : r.ts < 2 ^ c.W) : (v.update c k r).Fits c := by
  rcases update_cases c v k r with ⟨-, e⟩ | ⟨-, e⟩ <;> rw [e]
  · exact h
  · have times : ∀ j, (v.ts.set k r.ts).get j < 2 ^ c.W := fun j => by
      rw [perSource_get_set]; split
      · exact hts
      · exact h.ts j
    cases k with
    | lamp => exact ⟨times, rfl, h.lock, h.park⟩
    | lock => exact ⟨times, h.lamp, rfl, h.park⟩
    | park => exact ⟨times, h.lamp, h.lock, rfl⟩
    | batt => exact ⟨times, h.lamp, h.lock, h.park⟩

/-! ### Button registers -/

theorem buttonReset_fits {c : Config} {t0 : Time} (ht : t0 < 2 ^ c.W) : (buttonReset t0).Fits c where
  holdDurationMs := Nat.two_pow_pos _
  lastPressTime := Nat.two_pow_pos _
  lastChangeTime := ht
  pressCount := Nat.two_pow_pos _
  held := nofun
  down := nofun
  pressed := nofun
  double := nofun

theorem changeTimeAt_lt {c : Config} {b : ButtonRegs} (h : b.Fits c) {now : Time} (hnow : now < 2 ^ c.W) (p : Bool) :
    changeTimeAt b now p < 2 ^ c.W := by
  unfold changeTimeAt; split
  · exact h.lastChangeTime
  · exact hnow

/-- R150: a poll keeps the group, by the committed level before it and after it. -/
theorem ButtonRegs.Fits.poll {c : Config} {b : ButtonRegs} (h : b.Fits c) {now : Time} (hnow : now < 2 ^ c.W) (p : Bool) :
    (b.poll c now p).1.Fits c := by
  have hchange := changeTimeAt_lt h hnow p
  have notHeld : b.debouncedState = false → ¬ b.isHeld = true := fun hd hh => by simp [h.held hh] at hd
  rw [poll_eq]
  cases hd : b.debouncedState <;> cases hl : levelAt c b now p
  case false.false => exact ⟨h.holdDurationMs, h.lastPressTime, hchange, h.pressCount,
    fun hh => absurd hh (notHeld hd), nofun, h.pressed, h.double⟩
  case false.true => exact ⟨Nat.two_pow_pos _, hnow, hchange, Nat.mod_lt _ (Nat.two_pow_pos _),
    nofun, fun _ => rfl, fun _ => rfl, fun _ => rfl⟩
  case true.false => exact ⟨wsub_lt _ _ _, h.lastPressTime, hchange, h.pressCount, nofun, nofun, h.pressed, h.double⟩
  case true.true =>
    simp only [holdStep_eq, ← wsub_eq_elapsed]
    exact ⟨wsub_lt _ _ _, h.lastPressTime, hchange, h.pressCount, fun _ => rfl, fun _ => h.down hd, h.pressed, h.double⟩

/-! ### Output registers -/

theorem outputReset_fits (c : Config) (shutdown : Bool) : outputReset.Fits c shutdown :=
  ⟨Nat.two_pow_pos _, rfl, fun _ => rfl⟩

/-- A conditional write leaves the target applied, whether it wrote or found it so (R173). -/
@[simp] theorem State.emitOnChange_out (s : State) (a : Actuator) (v : Bool) :
    (s.emitOnChange a v).out = { s.out with lastApplied := s.out.lastApplied.set a v } := by
  rcases s.emitOnChange_cases a v with ⟨rfl, e⟩ | ⟨-, e⟩ <;> rw [e]
  · cases a <;> rfl
  · rfl

/-- In Normal mode a state-driven actuator may take any level: R180 ties the toolbox only. -/
theorem OutputRegs.Fits.setLevel {c : Config} {o : OutputRegs} (h : o.Fits c false) {a : Actuator} (ha : a ≠ .toolbox)
    (v : Bool) : OutputRegs.Fits c false { o with lastApplied := o.lastApplied.set a v } where
  toolboxStart := h.toolboxStart
  toolbox := by
    cases a with
    | toolbox => exact absurd rfl ha
    | _ => exact h.toolbox
  shutdownOff := nofun

/-! ### Every step -/

/-- The reset values meet the invariant, whatever stood before them (R47). -/
theorem State.resetRegs_inv {s : State} (hn : sentinelNeutral s.cfg) {t0 : Time} (ht : t0 < 2 ^ s.cfg.W) :
    (s.resetRegs t0).Inv :=
  (State.inv_iff _).2 ⟨hn, vehicleReset_fits hn, buttonReset_fits ht, outputReset_fits _ _⟩

/-- Every command keeps the invariant. -/
theorem exec_keeps_inv (i : Instr) {s : State} (h : s.Inv) : ∃ t, exec i s = .next t ∧ t.Inv := by
  simp only [State.inv_iff]
  obtain ⟨hn, hv, hb, ho⟩ := s.inv_iff.1 h
  have hrec : s.recIn.ts < 2 ^ s.cfg.W := portTime_lt _ _
  cases i with
  | init => exact ⟨_, rfl, (State.inv_iff _).1 (State.resetRegs_inv (s := s.begin.emitAllOff) hn (now_lt s))⟩
  | updateLamp => exact ⟨_, rfl, hn, hv.update .lamp hrec, hb, ho⟩
  | updateLock => exact ⟨_, rfl, hn, hv.update .lock hrec, hb, ho⟩
  | updatePark => exact ⟨_, rfl, hn, hv.update .park hrec, hb, ho⟩
  | updateBatt => exact ⟨_, rfl, hn, hv.update .batt hrec, hb, ho⟩
  | frameIn =>
    rcases frameIn_cases s with ⟨-, e⟩ | ⟨k, -, e⟩
    · exact ⟨_, e, hn, hv, hb, ho⟩
    · exact ⟨_, e, hn, hv.update k (decoded_ts s k ▸ now_lt s), hb, ho⟩
  | recomputeReady => exact ⟨_, rfl, hn, { hv with }, hb, ho⟩
  | touchFreshness => exact ⟨_, rfl, hn, { hv with ts := fun k => by simpa using now_lt s }, hb, ho⟩
  | buttonPoll => exact ⟨_, rfl, hn, hv, hb.poll (now_lt s) _, ho⟩
  | readPressed => exact ⟨_, rfl, hn, hv, { hb with pressed := nofun }, ho⟩
  | readReleased => exact ⟨_, rfl, hn, hv, { hb with }, ho⟩
  | readDouble => exact ⟨_, rfl, hn, hv, { hb with double := nofun }, ho⟩
  | outputTick =>
    rcases outputTick_cases s with ⟨-, e⟩ | ⟨hs, e⟩
    · exact ⟨_, e, hn, hv, hb, ho⟩
    · rw [hs] at ho
      refine ⟨_, e, by simpa using hn, by simpa using hv, by simpa using hb, ?_⟩
      simpa [hs] using ((ho.setLevel (a := .lamp) nofun _).setLevel (a := .parkedInd) nofun _).setLevel
        (a := .unlockedInd) nofun _
  | toolboxEval =>
    rcases toolboxEval_cases s with ⟨-, e⟩ | ⟨hs, -, -, e⟩ | ⟨-, -, e⟩
    · exact ⟨_, e, hn, hv, hb, ho⟩
    · exact ⟨_, e, hn, hv, { hb with pressed := nofun }, now_lt s, rfl, by simp [hs]⟩
    · exact ⟨_, e, hn, hv, { hb with pressed := nofun }, ho⟩
  | toolboxTimer =>
    rcases toolboxTimer_cases s with ⟨-, e⟩ | ⟨hs, -, e⟩ | ⟨-, -, e⟩
    · exact ⟨_, e, hn, hv, hb, ho⟩
    · exact ⟨_, e, hn, hv, hb, ho.toolboxStart, rfl, by simp [hs]⟩
    · exact ⟨_, e, hn, hv, hb, ho⟩
  | safeShutdown => exact ⟨_, rfl, hn, hv, hb, ho.toolboxStart, rfl, fun _ => rfl⟩
  | _ => exact ⟨_, rfl, hn, hv, hb, ho⟩

/-- Settles O51: an executed command keeps the invariant by `exec_keeps_inv`, a release of the reset input loads values that
meet it, and every other entry writes no register. -/
theorem everyStepKeepsMachineInvariant : Obligations.EveryStepKeepsMachineInvariant := by
  intro s t hinv h
  rcases (step_cases h).2 with ⟨-, rfl⟩ | ⟨rest, -, rfl⟩ | ⟨level, now, rest, -, rfl⟩ | ⟨cmd, inp, rest, -, -, rfl⟩ |
    ⟨cmd, inp, rest, e, -, -, -, rfl⟩ | ⟨cmd, inp, rest, i, -, -, -, he⟩
  · exact hinv.of_regs_eq rfl rfl rfl rfl rfl
  · exact hinv.of_regs_eq rfl rfl rfl rfl rfl
  · rcases (s.pass rest).driveReset_cases level now with ⟨-, -, e⟩ | ⟨-, e⟩ <;> rw [e]
    · exact State.resetRegs_inv (s := { s.pass rest with resetHeld := false }.quiet) hinv.neutral (portTime_lt s.cfg now)
    · exact hinv.of_regs_eq rfl rfl rfl rfl rfl
  · exact hinv.of_regs_eq rfl rfl rfl rfl rfl
  · exact hinv.of_regs_eq rfl rfl rfl rfl rfl
  · obtain ⟨u, hu, hui⟩ := exec_keeps_inv i (s := s.accept inp rest) (hinv.of_regs_eq rfl rfl rfl rfl rfl)
    rw [hu] at he
    cases he
    exact hui

/-! ### The mode -/

/-- An opcode names a command only if it is the command's word (R73). -/
theorem instrOfOp_some {n : Nat} {i : Instr} (h : instrOfOp n = some i) : n = (encode i).toNat := by
  unfold instrOfOp at h
  split at h <;> cases h <;> rfl

/-- A word that decodes is the word of its command: the reserved bits are 0, so the word is its opcode (R71, R75). -/
theorem decode_ok {cmd : Byte} {i : Instr} (h : decode cmd = .ok i) : cmd = encode i := by
  unfold decode at h
  split at h
  case isTrue => cases h
  case isFalse hrsv =>
    have hop : instrOfOp (opField cmd).toNat = some i := by
      split at h
      · cases h; assumption
      · cases h
    have hreserved : cmd.toNat / 32 % 8 = 0 := by
      simpa [rsvField, Nat.shiftRight_eq_div_pow] using congrArg BitVec.toNat (not_not.1 hrsv)
    have hopcode : (opField cmd).toNat = cmd.toNat % 32 := by simp [opField]
    apply BitVec.eq_of_toNat_eq
    rw [← instrOfOp_some hop]
    omega

/-- What a command does to the mode bit (R46): `SAFE_SHUTDOWN` sets it, `INIT` clears it, every other command keeps it. -/
theorem exec_mode_cases {i : Instr} {s t : State} (h : exec i s = .next t) :
    t.shutdown = s.shutdown ∨ (i = .safeShutdown ∧ t.shutdown = true) ∨ (i = .init ∧ t.shutdown = false) := by
  cases i with
  | init => cases h; exact .inr (.inr ⟨rfl, rfl⟩)
  | safeShutdown => cases h; exact .inr (.inl ⟨rfl, rfl⟩)
  | frameIn => rcases frameIn_cases s with ⟨-, e⟩ | ⟨k, -, e⟩ <;> rw [e] at h <;> cases h <;> exact .inl rfl
  | outputTick =>
    rcases outputTick_cases s with ⟨-, e⟩ | ⟨-, e⟩ <;> rw [e] at h <;> cases h
    · exact .inl rfl
    · exact .inl (by simp)
  | toolboxEval =>
    rcases toolboxEval_cases s with ⟨-, e⟩ | ⟨-, -, -, e⟩ | ⟨-, -, e⟩ <;> rw [e] at h <;> cases h <;> exact .inl rfl
  | toolboxTimer =>
    rcases toolboxTimer_cases s with ⟨-, e⟩ | ⟨-, -, e⟩ | ⟨-, -, e⟩ <;> rw [e] at h <;> cases h <;> exact .inl rfl
  | _ => cases h; exact .inl rfl

/-- What a step does to the mode bit: only a `SAFE_SHUTDOWN` word sets it, only an `INIT` word or the release of an asserted
reset input clears it, every other entry keeps it (R46, R220). -/
theorem step_mode_cases {s t : State} (h : step s = .next t) :
    t.shutdown = s.shutdown ∨
    ((∃ inp rest, s.host = .command (encode .safeShutdown) inp :: rest) ∧ t.shutdown = true) ∨
    (((∃ inp rest, s.host = .command (encode .init) inp :: rest) ∨
      (∃ now rest, s.resetHeld = true ∧ s.host = .resetInput false now :: rest)) ∧ t.shutdown = false) := by
  rcases (step_cases h).2 with ⟨-, rfl⟩ | ⟨rest, -, rfl⟩ | ⟨level, now, rest, hh, rfl⟩ | ⟨cmd, inp, rest, -, -, rfl⟩ |
    ⟨cmd, inp, rest, e, -, -, -, rfl⟩ | ⟨cmd, inp, rest, i, hh, -, hd, he⟩
  · exact .inl rfl
  · exact .inl rfl
  · rcases (s.pass rest).driveReset_cases level now with ⟨hr, rfl, e⟩ | ⟨-, e⟩ <;> rw [e]
    · exact .inr (.inr ⟨.inr ⟨now, rest, hr, hh⟩, rfl⟩)
    · exact .inl rfl
  · exact .inl rfl
  · exact .inl rfl
  · rw [decode_ok hd] at hh
    rcases exec_mode_cases he with hm | ⟨rfl, hm⟩ | ⟨rfl, hm⟩
    · exact .inl hm
    · exact .inr (.inl ⟨⟨inp, rest, hh⟩, hm⟩)
    · exact .inr (.inr ⟨.inl ⟨inp, rest, hh⟩, hm⟩)

/-- Settles O43: the cases of `step_mode_cases`, with the two command words computed by the encoder. -/
theorem modeChangesOnlyByItsCommands : Obligations.ModeChangesOnlyByItsCommands := by
  intro s t h
  rcases step_mode_cases h with hm | ⟨cause, hm⟩ | ⟨cause, hm⟩
  · exact ⟨fun hs ht => by simp [hm, hs] at ht, fun hs ht => by simp [hm, hs] at ht⟩
  · exact ⟨fun _ _ => cause, fun _ ht => by simp [hm] at ht⟩
  · exact ⟨fun _ ht => by simp [hm] at ht, fun _ _ => cause⟩

/-! ### Reset -/

/-- Settles O11: `State.reset` register by register. -/
theorem resetStateHoldsTableValues : Obligations.ResetStateHoldsTableValues := by
  refine ⟨rfl, rfl, fun r hcur hprev hparked => ?_, rfl⟩
  cases r with
  | cur k => exact absurd rfl (hcur k)
  | prev k => exact absurd rfl (hprev k)
  | isParked => exact absurd rfl hparked
  | ts k => exact perSource_get_fill 0 k
  | seen k => exact congrArg Bool.toNat (perSource_get_fill false k)
  | lastApplied a => exact congrArg Bool.toNat (perActuator_get_fill false a)
  | _ => rfl

/-- Settles O52: the registers of `State.reset` are the reset values, and the default sentinel is no code of a flag. -/
theorem machineInvariantAtReset : Obligations.MachineInvariantAtReset :=
  State.resetRegs_inv (s := State.reset) (by unfold sentinelNeutral; decide) (Nat.two_pow_pos _)

end Sys2Proof.Machine

/-! ## Proofs: the frame data and the read-and-clear flags (spec 20_memory.md R52, R60)

The views of the frame data are compared bit by bit: each has one lemma that says what its bits are. For the edge flags, one
lemma says which commands can clear one, and a step adds the reset input to them. -/

namespace Sys2Proof.Machine

/-! ### The 64-bit view of the frame data -/

/-- A byte shifted to byte place `k` shows in byte `k` only. -/
theorem shiftedByte_getLsbD (b : Byte) (k : Nat) {i j : Nat} (hi : i < 8) (hj : j < 8) :
    (b.setWidth 64 <<< (8 * k)).getLsbD (8 * i + j) = (decide (i = k) && b.getLsbD j) := by
  rw [BitVec.getLsbD_shiftLeft, BitVec.getLsbD_setWidth]
  rcases Nat.lt_trichotomy i k with h | rfl | h
  · simp [h.ne, show 8 * i + j < 8 * k by omega]
  · simp [show 8 * i + j < 64 by omega, show j < 64 by omega]
  · simp [h.ne', BitVec.getLsbD_of_ge b (8 * i + j - 8 * k) (by omega)]

/-- R52: bit `j` of `data[i]` is bit `8i + j` of the 64-bit view. -/
theorem raw64_getLsbD (data : Vector Byte 8) {i j : Nat} (hi : i < 8) (hj : j < 8) :
    (raw64 data).getLsbD (8 * i + j) = data[i].getLsbD j := by
  have place := fun (b : Byte) (k : Nat) => shiftedByte_getLsbD b k hi hj
  have first := place data[0] 0
  rw [Nat.mul_zero, BitVec.shiftLeft_zero] at first
  simp only [raw64, BitVec.getLsbD_or, first, place _ 1, place _ 2, place _ 3, place _ 4, place _ 5, place _ 6, place _ 7]
  interval_cases i <;> simp

/-- R52: a read returns the bits from `8a` on, `8n` of them. -/
theorem memRead_getLsbD (raw : FrameData) (a n : Nat) {i : Nat} (hi : i < 64) :
    (memRead raw a n).getLsbD i = (decide (i < 8 * n) && raw.getLsbD (8 * a + i)) := by
  rw [memRead, BitVec.getLsbD_and, BitVec.getLsbD_ushiftRight, mask64_getLsbD _ _ hi, Bool.and_comm]

/-- R52: a read as exact arithmetic. -/
theorem memRead_toNat (raw : FrameData) (a n : Nat) (h : n ≤ 8) :
    (memRead raw a n).toNat = raw.toNat / 2 ^ (8 * a) % 2 ^ (8 * n) := by
  rw [memRead, and_mask64_toNat _ _ (by omega), BitVec.toNat_ushiftRight, Nat.shiftRight_eq_div_pow]

/-- R52: a read finds what was written at the same place. -/
theorem memRead_memWrite (raw v : FrameData) {a n : Nat} (h : a + n ≤ 8) :
    memRead (memWrite raw a n v) a n = v &&& mask64 (8 * n) := by
  refine BitVec.eq_of_getLsbD_eq fun i hi => ?_
  rw [memRead_getLsbD _ _ _ hi, BitVec.getLsbD_and, mask64_getLsbD _ _ hi, Bool.and_comm]
  by_cases hin : i < 8 * n
  · rw [memWrite_getLsbD _ _ _ _ _ h (by omega), if_pos (by omega), Nat.add_sub_cancel_left]
  · simp [hin]

/-- R52: a write leaves the bytes outside its place. -/
theorem frameByte_memWrite_of_outside (raw v : FrameData) {a n i : Nat} (h : a + n ≤ 8) (hi : i < 8)
    (hout : i < a ∨ a + n ≤ i) : frameByte (memWrite raw a n v) i = frameByte raw i := by
  refine BitVec.eq_of_getLsbD_eq fun j hj => ?_
  rw [frameByte_getLsbD _ _ _ hj, frameByte_getLsbD _ _ _ hj, memWrite_getLsbD _ _ _ _ _ h (by omega), if_neg (by omega)]

/-- Settles O13: byte `i` by its bits; a read as exact arithmetic, also of what a write left; a write by its bits. -/
theorem frameViewIsLittleEndian : Obligations.FrameViewIsLittleEndian := by
  refine ⟨fun data i hi => ?_, fun raw v a n h => ⟨memRead_toNat raw a n (by omega), ?_, ?_⟩⟩
  · refine BitVec.eq_of_getLsbD_eq fun j hj => ?_
    rw [frameByte_getLsbD _ _ _ hj, raw64_getLsbD data hi hj]
  · rw [memRead_memWrite raw v h, and_mask64_toNat _ _ (by omega)]
  · exact fun i hi hout => frameByte_memWrite_of_outside raw v h hi hout

/-! ### The edge flags -/

/-- Every edge flag set in `b` is set in `b'`. -/
structure ButtonRegs.EdgesKept (b b' : ButtonRegs) : Prop where
  pressed : b.pressedEdge = true → b'.pressedEdge = true
  released : b.releasedEdge = true → b'.releasedEdge = true
  double : b.doubleClickPending = true → b'.doubleClickPending = true

theorem ButtonRegs.EdgesKept.of_eq {b b' : ButtonRegs} (h : b' = b) : b.EdgesKept b' := h ▸ ⟨id, id, id⟩

/-- R150: a poll sets edge flags and clears none. -/
theorem ButtonRegs.EdgesKept.poll (c : Config) (b : ButtonRegs) (now : Time) (p : Bool) :
    b.EdgesKept (b.poll c now p).1 := by
  rw [poll_eq]
  cases b.debouncedState <;> cases levelAt c b now p
  case false.false => exact ⟨id, id, id⟩
  case false.true => exact ⟨fun _ => rfl, id, fun hd => by simp [ButtonRegs.pressStep, hd]⟩
  case true.false => exact ⟨id, fun _ => rfl, id⟩
  case true.true => simp only [holdStep_eq]; exact ⟨id, id, id⟩

/-- What a command does to the edge flags (R60, R162): a read clears its own, `TOOLBOX_EVAL` the press edge in Normal mode,
`INIT` may clear any, every other command keeps those that are set. -/
theorem exec_edge_cases {i : Instr} {s t : State} (h : exec i s = .next t) :
    s.btn.EdgesKept t.btn ∨ i = .init ∨
    ((i = .readPressed ∨ (i = .toolboxEval ∧ s.shutdown = false)) ∧ t.btn = { s.btn with pressedEdge := false }) ∨
    (i = .readReleased ∧ t.btn = { s.btn with releasedEdge := false }) ∨
    (i = .readDouble ∧ t.btn = { s.btn with doubleClickPending := false }) := by
  cases i with
  | init => exact .inr (.inl rfl)
  | frameIn =>
    rcases frameIn_cases s with ⟨-, e⟩ | ⟨k, -, e⟩ <;> rw [e] at h <;> cases h <;> exact .inl (.of_eq rfl)
  | buttonPoll => cases h; exact .inl (.poll s.cfg s.btn s.now s.inp.btnPressed)
  | readPressed => cases h; exact .inr (.inr (.inl ⟨.inl rfl, rfl⟩))
  | readReleased => cases h; exact .inr (.inr (.inr (.inl ⟨rfl, rfl⟩)))
  | readDouble => cases h; exact .inr (.inr (.inr (.inr ⟨rfl, rfl⟩)))
  | outputTick =>
    rcases outputTick_cases s with ⟨-, e⟩ | ⟨-, e⟩ <;> rw [e] at h <;> cases h
    · exact .inl (.of_eq rfl)
    · exact .inl (.of_eq (by simp))
  | toolboxEval =>
    rcases toolboxEval_cases s with ⟨-, e⟩ | ⟨hs, -, -, e⟩ | ⟨hs, -, e⟩ <;> rw [e] at h <;> cases h
    · exact .inl (.of_eq rfl)
    · exact .inr (.inr (.inl ⟨.inr ⟨rfl, hs⟩, rfl⟩))
    · exact .inr (.inr (.inl ⟨.inr ⟨rfl, hs⟩, rfl⟩))
  | toolboxTimer =>
    rcases toolboxTimer_cases s with ⟨-, e⟩ | ⟨-, -, e⟩ | ⟨-, -, e⟩ <;> rw [e] at h <;> cases h <;> exact .inl (.of_eq rfl)
  | _ => cases h; exact .inl (.of_eq rfl)

/-- A step either keeps the edge flags that are set, or is the release of an asserted reset input, or executes the host's
command word (R11, R220). -/
theorem step_edge_cases {s t : State} (h : step s = .next t) :
    s.btn.EdgesKept t.btn ∨
    (∃ now rest, s.resetHeld = true ∧ s.host = .resetInput false now :: rest) ∨
    (∃ i inp rest, s.host = .command (encode i) inp :: rest ∧ exec i (s.accept inp rest) = .next t) := by
  rcases (step_cases h).2 with ⟨-, rfl⟩ | ⟨rest, -, rfl⟩ | ⟨level, now, rest, hh, rfl⟩ | ⟨cmd, inp, rest, -, -, rfl⟩ |
    ⟨cmd, inp, rest, e, -, -, -, rfl⟩ | ⟨cmd, inp, rest, i, hh, -, hd, he⟩
  · exact .inl (.of_eq rfl)
  · exact .inl (.of_eq rfl)
  · rcases (s.pass rest).driveReset_cases level now with ⟨hr, rfl, -⟩ | ⟨-, e⟩
    · exact .inr (.inl ⟨now, rest, hr, hh⟩)
    · exact .inl (.of_eq (by rw [e]; rfl))
  · exact .inl (.of_eq rfl)
  · exact .inl (.of_eq rfl)
  · exact .inr (.inr ⟨i, inp, rest, decode_ok hd ▸ hh, he⟩)

/-- A flag that stays set is not cleared, for whatever cause `P`. -/
theorem not_cleared_of_kept {flag flag' : Bool} {P : Prop} (kept : flag = true → flag' = true) :
    flag = true → flag' = false → P :=
  fun h h' => absurd (kept h) (by simp [h'])

/-- Settles O44: what clears a flag is a release of the reset input or a command of `exec_edge_cases`, whose word the encoder
computes. -/
theorem edgeFlagsClearedOnlyByTheirReads : Obligations.EdgeFlagsClearedOnlyByTheirReads := by
  intro s t h
  rcases step_edge_cases h with hk | reset | ⟨i, inp, rest, hh, he⟩
  · exact ⟨not_cleared_of_kept hk.pressed, not_cleared_of_kept hk.released, not_cleared_of_kept hk.double⟩
  · exact ⟨fun _ _ => .inr (.inr (.inr reset)), fun _ _ => .inr (.inr reset), fun _ _ => .inr (.inr reset)⟩
  · have word : ∃ inp rest, s.host = .command (encode i) inp :: rest := ⟨inp, rest, hh⟩
    rcases exec_edge_cases he with hk | rfl | ⟨cause, hb⟩ | ⟨rfl, hb⟩ | ⟨rfl, hb⟩
    · exact ⟨not_cleared_of_kept hk.pressed, not_cleared_of_kept hk.released, not_cleared_of_kept hk.double⟩
    · exact ⟨fun _ _ => .inr (.inr (.inl word)), fun _ _ => .inr (.inl word), fun _ _ => .inr (.inl word)⟩
    · rw [hb]
      refine ⟨fun _ _ => ?_, not_cleared_of_kept id, not_cleared_of_kept id⟩
      rcases cause with rfl | ⟨rfl, hs⟩
      · exact .inl word
      · exact .inr (.inl ⟨word, hs⟩)
    · rw [hb]
      exact ⟨not_cleared_of_kept id, fun _ _ => .inl word, not_cleared_of_kept id⟩
    · rw [hb]
      exact ⟨not_cleared_of_kept id, not_cleared_of_kept id, fun _ _ => .inl word⟩

end Sys2Proof.Machine

/-! ## Proofs: the encoding (spec 30_encoding.md R66, R69, R70, R71, R73, R91, R92)

What a command answers and leaves unchanged, against the columns of the opcode map. Each of these claims has one rule per shared
operation (accept and answer, update, emit, start and end a pulse); the proof for all commands goes through their outcomes. -/

namespace Sys2Proof.Machine

/-! ### The command word -/

/-- The word of a command decodes to it (R71, R73). -/
theorem decode_encode (i : Instr) : decode (encode i) = .ok i := by
  cases i <;> rfl

/-- Settles O1: each word is the encoding of its command. -/
theorem decoderReadsOpcodeMapWords : Obligations.DecoderReadsOpcodeMapWords :=
  ⟨decode_encode .extract, decode_encode .init, decode_encode .decodeLock, decode_encode .updatePark, decode_encode .frameIn,
    decode_encode .readPressed, decode_encode .buttonStatus, decode_encode .toolboxTimer, decode_encode .safeShutdown⟩

/-- Settles O2: `decode_encode`, and `decode_ok` for the other direction. -/
theorem commandWordRoundTrip : Obligations.CommandWordRoundTrip :=
  ⟨decode_encode, fun _ _ h => (decode_ok h).symm⟩

/-! ### One equation per outcome of a command -/

/-- The decode commands answer the record of their source (R111 to R114). -/
theorem exec_decodeInstr (k : Source) (s : State) :
    exec (decodeInstr k) s = .next (s.begin.respondRecord (s.decoded k)) := by
  cases k <;> rfl

/-- The update commands update their source with the record on the ports (R131 to R134). -/
theorem exec_updateInstr (k : Source) (s : State) : exec (updateInstr k) s = .next (s.begin.updateSrc k s.recIn) := by
  cases k <;> rfl

/-- R115, an identifier of no source. -/
theorem exec_frameIn_of_none {s : State} (h : sourceOfId s.cfg s.inp.frameId = none) :
    exec .frameIn s = .next s.begin := by
  simp only [exec, execFrameIn, h]

/-- R115, an identifier of a source. -/
theorem exec_frameIn_of_some {s : State} {k : Source} (h : sourceOfId s.cfg s.inp.frameId = some k) :
    exec .frameIn s = .next ((s.begin.respond
      { Response.zero with matched := true, src := k.num, record := s.decoded k }).updateSrc k (s.decoded k)) := by
  simp only [exec, execFrameIn, h]

/-- R179: in Shutdown mode the three actuator-driving commands are suppressed. -/
theorem exec_suppressed {i : Instr} {s : State} (hi : i ∈ [Instr.outputTick, .toolboxEval, .toolboxTimer])
    (hs : s.shutdown = true) : exec i s = .next s.suppressed := by
  simp only [List.mem_cons, List.not_mem_nil, or_false] at hi
  rcases hi with rfl | rfl | rfl <;> exact if_pos hs

/-- R173 in Normal mode. -/
theorem exec_outputTick_normal {s : State} (hs : s.shutdown = false) :
    exec .outputTick s = .next (((s.begin.emitOnChange .lamp (targets s.veh).1).emitOnChange .parkedInd
      (targets s.veh).2.1).emitOnChange .unlockedInd (targets s.veh).2.2) :=
  if_neg (by simp [hs])

/-- R175 in Normal mode, the pulse starting or not. -/
theorem exec_toolboxEval_normal {s : State} (hs : s.shutdown = false) :
    exec .toolboxEval s =
      if s.toolboxGo && !s.out.toolboxActive then
        .next (State.startPulse { s.begin.respondBit s.toolboxGo with btn := { s.btn with pressedEdge := false } } s.now)
      else .next { s.begin.respondBit s.toolboxGo with btn := { s.btn with pressedEdge := false } } :=
  if_neg (by simp [hs])

/-- R176 in Normal mode, the pulse ending or not. -/
theorem exec_toolboxTimer_normal {s : State} (hs : s.shutdown = false) :
    exec .toolboxTimer s = if s.pulseDue then .next s.begin.endPulse else .next s.begin :=
  if_neg (by simp [hs])

/-! ### Decode and update -/

/-- The record of a decoder, put back on the ports by `DECUPD_<SRC>`, is read as it was: its time is already reduced (R92). -/
theorem recIn_decupdUpdate {s : State} {r : Record} (k : Source) (hr : r.ts < 2 ^ s.cfg.W) :
    State.recIn { s with inp := (decupdUpdate k r).ports } = r := by
  have hts : portTime s.cfg r.ts = r.ts := Nat.mod_eq_of_lt hr
  change { r with ts := portTime s.cfg r.ts } = r
  rw [hts]

/-- Settles O21: both ways update the source with the record its decoder makes of the frame. -/
theorem decodeThenUpdateEqualsFrameIn : Obligations.DecodeThenUpdateEqualsFrameIn := by
  intro s k f t hl hid
  have hsrc : sourceOfId s.cfg f.id = some k := hid ▸ sourceOfId_get s.cfg hl k
  have hts : (State.decoded { s with inp := (frameInLine f t).ports } k).ts < 2 ^ s.cfg.W := by
    rw [decoded_ts]
    exact now_lt _
  exact ⟨_, _, _, _, exec_decodeInstr k _, rfl, exec_updateInstr k _, exec_frameIn_of_some hsrc,
    congrArg (s.veh.update s.cfg k) (recIn_decupdUpdate k hts), rfl, rfl, rfl⟩

/-! ### The column "state written" -/

/-- What a command leaves unchanged: the configuration, the sampled ports, the reset input, the host's later entries, and every
register that `written` does not list. -/
structure State.ChangesOnly (written : Reg → Bool) (s t : State) : Prop where
  reg : ∀ r, written r = false → t.reg r = s.reg r
  cfg : t.cfg = s.cfg := by rfl
  inp : t.inp = s.inp := by rfl
  resetHeld : t.resetHeld = s.resetHeld := by rfl
  host : t.host = s.host := by rfl

/-- What two operations in turn leave unchanged. -/
theorem State.ChangesOnly.trans {written : Reg → Bool} {s t u : State} (h : s.ChangesOnly written t)
    (h' : t.ChangesOnly written u) : s.ChangesOnly written u where
  reg r hr := (h'.reg r hr).trans (h.reg r hr)
  cfg := h'.cfg.trans h.cfg
  inp := h'.inp.trans h.inp
  resetHeld := h'.resetHeld.trans h.resetHeld
  host := h'.host.trans h.host

/-- A list with more registers leaves fewer to hold. -/
theorem State.ChangesOnly.mono {written written' : Reg → Bool} {s t : State} (h : s.ChangesOnly written t)
    (sub : ∀ r, written' r = false → written r = false) : s.ChangesOnly written' t :=
  { h with reg := fun r hr => h.reg r (sub r hr) }

/-- Accepting and answering a command changes no register, whatever the command may write. -/
theorem State.begin_respond_changesOnly (s : State) (written : Reg → Bool) (r : Response) :
    s.ChangesOnly written (s.begin.respond r) where
  reg _ _ := rfl

/-- An update leaves the raw registers of every other source (R130). -/
theorem update_of_other_source (c : Config) (v : VehicleRegs) {j k : Source} (hjk : j ≠ k) (rec : Record) :
    (v.update c k rec).cur.get j = v.cur.get j ∧ (v.update c k rec).prev.get j = v.prev.get j ∧
    (v.update c k rec).ts.get j = v.ts.get j ∧ (v.update c k rec).seen.get j = v.seen.get j := by
  rcases update_cases c v k rec with ⟨-, e⟩ | ⟨-, e⟩ <;> rw [e]
  · exact ⟨rfl, rfl, rfl, rfl⟩
  · cases k <;> simp only [VehicleRegs.recompute, perSource_get_set, if_neg hjk, and_self]

/-- An update leaves `systemReady` and every derived flag its source does not own (R130). -/
theorem update_of_unowned_flag (c : Config) (v : VehicleRegs) (k : Source) (rec : Record) :
    (v.update c k rec).systemReady = v.systemReady ∧
    (k ≠ .lamp → (v.update c k rec).lampShouldBeOn = v.lampShouldBeOn) ∧
    (k ≠ .lock → (v.update c k rec).isUnlocked = v.isUnlocked) ∧
    (k ≠ .park → (v.update c k rec).isParked = v.isParked) := by
  rcases update_cases c v k rec with ⟨-, e⟩ | ⟨-, e⟩ <;> rw [e]
  · exact ⟨rfl, fun _ => rfl, fun _ => rfl, fun _ => rfl⟩
  · cases k <;> simp [VehicleRegs.recompute]

/-- R130: an update changes the source's four registers and the flag it owns. -/
theorem State.updateSrc_changesOnly (s : State) (k : Source) (rec : Record) :
    s.ChangesOnly (updateWrites k) (s.updateSrc k rec) where
  reg r hr := by
    obtain ⟨ready, lamp, lock, park⟩ := update_of_unowned_flag s.cfg s.veh k rec
    have raw := fun {j} (h : (j == k) = false) => update_of_other_source s.cfg s.veh (beq_eq_false_iff_ne.1 h) rec
    cases r with
    | cur j => exact congrArg BitVec.toNat (raw hr).1
    | prev j => exact congrArg BitVec.toNat (raw hr).2.1
    | ts j => exact (raw hr).2.2.1
    | seen j => exact congrArg Bool.toNat (raw hr).2.2.2
    | lampShouldBeOn => exact congrArg Bool.toNat (lamp (beq_eq_false_iff_ne.1 hr))
    | isUnlocked => exact congrArg Bool.toNat (lock (beq_eq_false_iff_ne.1 hr))
    | isParked => exact congrArg Bool.toNat (park (beq_eq_false_iff_ne.1 hr))
    | systemReady => exact congrArg Bool.toNat ready
    | _ => rfl

/-- A write changes the level of its actuator only, and a conditional write at most that (R10, R173). -/
theorem State.emitOnChange_changesOnly (s : State) {a : Actuator} (v : Bool) {written : Reg → Bool}
    (ha : written (.lastApplied a) = true) : s.ChangesOnly written (s.emitOnChange a v) where
  reg r hr := by
    have hne : r ≠ .lastApplied a := fun h => by simp [h, ha] at hr
    cases r with
    | lastApplied b => simp [State.reg, perActuator_get_set, show b ≠ a from fun h => hne (h ▸ rfl)]
    | _ => simp [State.reg]
  cfg := s.emitOnChange_cfg a v
  inp := s.emitOnChange_inp a v
  resetHeld := s.emitOnChange_resetHeld a v
  host := s.emitOnChange_host a v

/-- The start of a pulse changes the pulse registers and the toolbox level (R175). -/
theorem State.startPulse_changesOnly (s : State) (now : Time) {written : Reg → Bool}
    (hactive : written .toolboxActive = true) (hstart : written .toolboxStart = true)
    (hlevel : written (.lastApplied .toolbox) = true) : s.ChangesOnly written (s.startPulse now) where
  reg r hr := by
    cases r with
    | toolboxActive => simp [hactive] at hr
    | toolboxStart => simp [hstart] at hr
    | lastApplied a => cases a with
      | toolbox => simp [hlevel] at hr
      | _ => rfl
    | _ => rfl

/-- The end of a pulse changes `toolboxActive` and the toolbox level (R176). -/
theorem State.endPulse_changesOnly (s : State) {written : Reg → Bool} (hactive : written .toolboxActive = true)
    (hlevel : written (.lastApplied .toolbox) = true) : s.ChangesOnly written s.endPulse where
  reg r hr := by
    cases r with
    | toolboxActive => simp [hactive] at hr
    | lastApplied a => cases a with
      | toolbox => simp [hlevel] at hr
      | _ => rfl
    | _ => rfl

/-- Consuming the press edge changes that register only (R156, R175). -/
theorem State.clearPressed_changesOnly (s : State) {written : Reg → Bool} (h : written .pressedEdge = true) :
    s.ChangesOnly written { s with btn := { s.btn with pressedEdge := false } } where
  reg r hr := by
    cases r with
    | pressedEdge => simp [h] at hr
    | _ => rfl

/-- The column of `FRAME_IN` lists what the update of the frame's source writes. -/
theorem updateWrites_of_frameIn {s : State} {k : Source} {r : Reg} (hid : s.cfg.id.get k = s.inp.frameId)
    (hr : stateWritten s .frameIn r = false) : updateWrites k r = false := by
  cases k <;> simp_all [stateWritten, PerSource.get]

/-- Every command completes and changes no register outside its column (R73). -/
theorem exec_changesOnly (i : Instr) (s : State) : ∃ t, exec i s = .next t ∧ s.ChangesOnly (stateWritten s i) t := by
  have answer := s.begin_respond_changesOnly (stateWritten s i)
  cases i with
  | init => exact ⟨_, rfl, { reg := fun _ hr => nomatch hr }⟩
  | updateLamp => exact ⟨_, rfl, (answer _).trans (State.updateSrc_changesOnly _ .lamp _)⟩
  | updateLock => exact ⟨_, rfl, (answer _).trans (State.updateSrc_changesOnly _ .lock _)⟩
  | updatePark => exact ⟨_, rfl, (answer _).trans (State.updateSrc_changesOnly _ .park _)⟩
  | updateBatt => exact ⟨_, rfl, (answer _).trans (State.updateSrc_changesOnly _ .batt _)⟩
  | frameIn =>
    rcases frameIn_cases s with ⟨-, e⟩ | ⟨k, hk, e⟩
    · exact ⟨_, e, answer _⟩
    · have hid := sourceOfId_some hk
      exact ⟨_, e, (answer _).trans ((State.updateSrc_changesOnly _ k _).mono fun r => updateWrites_of_frameIn hid)⟩
  | recomputeReady => exact ⟨_, rfl, { reg := fun r hr => by cases r with | systemReady => cases hr | _ => rfl }⟩
  | touchFreshness => exact ⟨_, rfl, { reg := fun r hr => by cases r with | ts | seen => cases hr | _ => rfl }⟩
  | buttonPoll =>
    refine ⟨_, rfl, { reg := fun r hr => ?_ }⟩
    cases r with
    | cur | prev | ts | seen | isUnlocked | isParked | lampShouldBeOn | systemReady | lastApplied | toolboxActive
    | toolboxStart | shutdown => rfl
    | _ => cases hr
  | readPressed => exact ⟨_, rfl, (answer _).trans (State.clearPressed_changesOnly _ rfl)⟩
  | readReleased => exact ⟨_, rfl, { reg := fun r hr => by cases r with | releasedEdge => cases hr | _ => rfl }⟩
  | readDouble => exact ⟨_, rfl, { reg := fun r hr => by cases r with | doubleClickPending => cases hr | _ => rfl }⟩
  | outputTick =>
    rcases outputTick_cases s with ⟨-, e⟩ | ⟨-, e⟩
    · exact ⟨_, e, answer _⟩
    · exact ⟨_, e, (((answer _).trans (State.emitOnChange_changesOnly _ _ rfl)).trans
        (State.emitOnChange_changesOnly _ _ rfl)).trans (State.emitOnChange_changesOnly _ _ rfl)⟩
  | toolboxEval =>
    have consumed := fun b => (answer { Response.zero with value := boolWord b }).trans
      (State.clearPressed_changesOnly _ rfl)
    rcases toolboxEval_cases s with ⟨-, e⟩ | ⟨-, -, -, e⟩ | ⟨-, -, e⟩
    · exact ⟨_, e, answer _⟩
    · exact ⟨_, e, (consumed _).trans (State.startPulse_changesOnly _ _ rfl rfl rfl)⟩
    · exact ⟨_, e, consumed _⟩
  | toolboxTimer =>
    rcases toolboxTimer_cases s with ⟨-, e⟩ | ⟨-, -, e⟩ | ⟨-, -, e⟩
    · exact ⟨_, e, answer _⟩
    · exact ⟨_, e, (answer _).trans (State.endPulse_changesOnly _ rfl rfl)⟩
    · exact ⟨_, e, answer _⟩
  | safeShutdown =>
    exact ⟨_, rfl, { reg := fun r hr => by cases r with | lastApplied | toolboxActive | shutdown => cases hr | _ => rfl }⟩
  | _ => exact ⟨_, rfl, answer _⟩

/-- Settles O45: the clauses of `exec_changesOnly`. -/
theorem commandWritesOnlyListedRegisters : Obligations.CommandWritesOnlyListedRegisters := by
  intro i s
  obtain ⟨t, ht, h⟩ := exec_changesOnly i s
  exact ⟨t, ht, h.reg, h.cfg, h.inp, h.resetHeld, h.host⟩

/-! ### The column "ports read" -/

/-- A conditional write reads no port. -/
theorem State.emitOnChange_withPorts (s : State) (p : InPorts) (a : Actuator) (v : Bool) :
    State.emitOnChange { s with inp := p } a v = { s.emitOnChange a v with inp := p } := by
  unfold State.emitOnChange
  split <;> rfl

/-- Settles O46: for the commands with several outcomes the outcome, too, depends on listed ports only; every other command
answers by one expression, in which no unlisted port stands. -/
theorem unlistedPortsAreIgnored : Obligations.UnlistedPortsAreIgnored := by
  intro i s
  by_cases hsup : i ∈ [Instr.outputTick, .toolboxEval, .toolboxTimer] ∧ s.shutdown = true
  case pos => exact ⟨_, exec_suppressed hsup.1 hsup.2, exec_suppressed hsup.1 hsup.2⟩
  cases i with
  | frameIn =>
    cases h : sourceOfId s.cfg s.inp.frameId with
    | none => exact ⟨_, exec_frameIn_of_none h, exec_frameIn_of_none h⟩
    | some k => exact ⟨_, exec_frameIn_of_some h, exec_frameIn_of_some h⟩
  | outputTick =>
    have hs : s.shutdown = false := by simpa using hsup
    refine ⟨_, exec_outputTick_normal hs, Eq.trans (exec_outputTick_normal hs) ?_⟩
    simp only [← State.emitOnChange_withPorts]
    rfl
  | toolboxEval =>
    have hs : s.shutdown = false := by simpa using hsup
    by_cases hstart : (s.toolboxGo && !s.out.toolboxActive) = true
    · exact ⟨_, Eq.trans (exec_toolboxEval_normal hs) (if_pos hstart),
        Eq.trans (exec_toolboxEval_normal hs) (if_pos hstart)⟩
    · exact ⟨_, Eq.trans (exec_toolboxEval_normal hs) (if_neg hstart),
        Eq.trans (exec_toolboxEval_normal hs) (if_neg hstart)⟩
  | toolboxTimer =>
    have hs : s.shutdown = false := by simpa using hsup
    by_cases hdue : s.pulseDue = true
    · exact ⟨_, Eq.trans (exec_toolboxTimer_normal hs) (if_pos hdue), Eq.trans (exec_toolboxTimer_normal hs) (if_pos hdue)⟩
    · exact ⟨_, Eq.trans (exec_toolboxTimer_normal hs) (if_neg hdue), Eq.trans (exec_toolboxTimer_normal hs) (if_neg hdue)⟩
  | _ => exact ⟨_, rfl, rfl⟩

/-! ### Responses -/

/-- The clauses of R69 on the response `r` of command `i` executed in this mode. -/
structure Response.Owned (i : Instr) (shutdown : Bool) (r : Response) : Prop where
  err : r.err = false
  shut : r.shut = true → shutdown = true ∧ i ∈ [Instr.outputTick, .toolboxEval, .toolboxTimer]
  value : r.value ≠ 0 → i ∈ [Instr.extract, .recomputeReady, .readPressed, .readReleased, .readDouble, .toolboxEval,
    .mayActivate]
  bit : i ≠ .extract → r.value.toNat ≤ 1
  data : r.data ≠ 0 → i = .set
  record : r.record ≠ Record.zero → i ∈ [Instr.decodeLamp, .decodeLock, .decodePark, .decodeBatt, .frameIn]
  source : r.matched = true ∨ r.src ≠ 0 → i = .frameIn
  held : r.heldEv = true → i = .buttonPoll
  snap : r.snap ≠ .zero → i = .snapshot ∨ i = .buttonStatus

/-- The response no rule has written meets every clause, for every command. -/
theorem Response.zero_owned (i : Instr) (shutdown : Bool) : Response.Owned i shutdown Response.zero where
  err := rfl
  shut := nofun
  value h := absurd rfl h
  bit _ := Nat.zero_le 1
  data h := absurd rfl h
  record h := absurd rfl h
  source h := absurd h (by decide)
  held := nofun
  snap h := absurd rfl h

/-- A one-bit result is at most 1. -/
theorem boolWord_toNat_le_one (b : Bool) : (boolWord b).toNat ≤ 1 := by
  cases b <;> decide

/-- The answer of a command with a one-bit result. -/
theorem Response.bit_owned {i : Instr} (shutdown : Bool) (b : Bool)
    (hi : i ∈ [Instr.recomputeReady, .readPressed, .readReleased, .readDouble, .toolboxEval, .mayActivate]) :
    Response.Owned i shutdown { Response.zero with value := boolWord b } :=
  { Response.zero_owned i shutdown with
    value := fun _ => List.mem_cons_of_mem _ hi
    bit := fun _ => boolWord_toNat_le_one b }

/-- The answer of a command that returns a record. -/
theorem Response.record_owned {i : Instr} (shutdown : Bool) (rec : Record)
    (hi : i ∈ [Instr.decodeLamp, .decodeLock, .decodePark, .decodeBatt, .frameIn]) :
    Response.Owned i shutdown { Response.zero with record := rec } :=
  { Response.zero_owned i shutdown with record := fun _ => hi }

/-- Every command answers one response, which meets the clauses of R69. -/
theorem exec_response_owned (i : Instr) (s : State) :
    ∃ t r, exec i s = .next t ∧ t.rsp = some r ∧ r.Owned i s.shutdown := by
  have zero := Response.zero_owned i s.shutdown
  by_cases hsup : i ∈ [Instr.outputTick, .toolboxEval, .toolboxTimer] ∧ s.shutdown = true
  case pos => exact ⟨_, _, exec_suppressed hsup.1 hsup.2, rfl, { zero with shut := fun _ => hsup.symm }⟩
  cases i with
  | extract => exact ⟨_, _, rfl, rfl, { zero with value := fun _ => by decide, bit := fun h => absurd rfl h }⟩
  | set => exact ⟨_, _, rfl, rfl, { zero with data := fun _ => rfl }⟩
  | decodeLamp | decodeLock | decodePark | decodeBatt =>
    exact ⟨_, _, rfl, rfl, Response.record_owned _ _ (by decide)⟩
  | frameIn =>
    rcases frameIn_cases s with ⟨-, e⟩ | ⟨k, -, e⟩
    · exact ⟨_, _, e, rfl, zero⟩
    · exact ⟨_, _, e, rfl, { zero with record := fun _ => by decide, source := fun _ => rfl }⟩
  | recomputeReady | readPressed | readReleased | readDouble | mayActivate =>
    exact ⟨_, _, rfl, rfl, Response.bit_owned _ _ (by decide)⟩
  | snapshot => exact ⟨_, _, rfl, rfl, { zero with snap := fun _ => .inl rfl }⟩
  | buttonStatus => exact ⟨_, _, rfl, rfl, { zero with snap := fun _ => .inr rfl }⟩
  | buttonPoll => exact ⟨_, _, rfl, rfl, { zero with held := fun _ => rfl }⟩
  | outputTick => exact ⟨_, _, exec_outputTick_normal (by simpa using hsup), by simp, zero⟩
  | toolboxEval =>
    rw [exec_toolboxEval_normal (by simpa using hsup)]
    split <;> exact ⟨_, _, rfl, rfl, Response.bit_owned _ _ (by decide)⟩
  | toolboxTimer =>
    rw [exec_toolboxTimer_normal (by simpa using hsup)]
    split <;> exact ⟨_, _, rfl, rfl, zero⟩
  | _ => exact ⟨_, _, rfl, rfl, zero⟩

/-- Settles O47: the clauses of `exec_response_owned`. -/
theorem responseFieldsBelongToTheirCommands : Obligations.ResponseFieldsBelongToTheirCommands := by
  intro i s
  obtain ⟨t, r, ht, hr, h⟩ := exec_response_owned i s
  exact ⟨t, r, ht, hr, h.err, h.shut, h.value, h.bit, h.data, h.record, h.source, h.held, h.snap⟩

/-! ### Write lists -/

/-- The write list `ws`, of actuators with numbers below `n` in ascending order, turns the levels `before` into `after`
(R10, R43, R70). -/
structure Applies (before : PerActuator Bool) (ws : List WriteEvent) (after : PerActuator Bool) (n : Nat) : Prop where
  ascending : ws.Pairwise fun e f => e.actuator.num < f.actuator.num
  below : ∀ e ∈ ws, e.actuator.num < n
  written : ∀ e ∈ ws, after.get e.actuator = e.level
  unwritten : ∀ a, (∀ e ∈ ws, e.actuator ≠ a) → after.get a = before.get a

/-- A command without a write leaves every level. -/
theorem Applies.nil (before : PerActuator Bool) (n : Nat) : Applies before [] before n where
  ascending := .nil
  below := nofun
  written := nofun
  unwritten _ _ := rfl

/-- One more write, of an actuator with a greater number (R10). -/
theorem Applies.append {before after : PerActuator Bool} {ws : List WriteEvent} {n : Nat} (h : Applies before ws after n)
    {a : Actuator} (ha : n ≤ a.num) (v : Bool) :
    Applies before (ws ++ [⟨a, v⟩]) (after.set a v) (a.num + 1) := by
  have lower : ∀ e ∈ ws, e.actuator.num < a.num := fun e he => (h.below e he).trans_le ha
  have other : ∀ e ∈ ws, e.actuator ≠ a := fun e he heq => absurd (lower e he) (by simp [heq])
  refine ⟨?_, ?_, ?_, ?_⟩
  · simpa [List.pairwise_append, h.ascending] using lower
  · simpa [or_imp, forall_and] using fun e he => (lower e he).le
  · rw [List.forall_mem_append, List.forall_mem_singleton]
    refine ⟨fun e he => ?_, by simp [perActuator_get_set]⟩
    rw [perActuator_get_set, if_neg (other e he), h.written e he]
  · intro b hb
    rw [List.forall_mem_append, List.forall_mem_singleton] at hb
    rw [perActuator_get_set, if_neg hb.2.symm, h.unwritten b hb.1]

/-- The bound may be raised. -/
theorem Applies.mono {before after : PerActuator Bool} {ws : List WriteEvent} {m n : Nat} (h : Applies before ws after m)
    (hmn : m ≤ n) : Applies before ws after n :=
  { h with below := fun e he => (h.below e he).trans_le hmn }

/-- A conditional write, whether it wrote or found the level applied (R173). -/
theorem Applies.emitOnChange {before : PerActuator Bool} {s : State} {n : Nat}
    (h : Applies before s.writes s.out.lastApplied n) {a : Actuator} (ha : n ≤ a.num) (v : Bool) :
    Applies before (s.emitOnChange a v).writes (s.emitOnChange a v).out.lastApplied (a.num + 1) := by
  rcases s.emitOnChange_cases a v with ⟨-, e⟩ | ⟨-, e⟩ <;> rw [e]
  · exact h.mono (ha.trans (Nat.le_succ _))
  · exact h.append ha v

/-- The four off-writes (R178, R190). -/
theorem Applies.allOff (before : PerActuator Bool) :
    Applies before [⟨.lamp, false⟩, ⟨.toolbox, false⟩, ⟨.parkedInd, false⟩, ⟨.unlockedInd, false⟩]
      (PerActuator.fill false) 4 :=
  ((((Applies.nil before 0).append (a := .lamp) (Nat.le_refl 0) false).append (a := .toolbox) (Nat.le_refl 1) false).append
    (a := .parkedInd) (Nat.le_refl 2) false).append (a := .unlockedInd) (Nat.le_refl 3) false

/-- Every command leaves a write list that accounts for the levels it leaves. -/
theorem exec_applies (i : Instr) (s : State) :
    ∃ t, exec i s = .next t ∧ Applies s.out.lastApplied t.writes t.out.lastApplied 4 := by
  have unwritten := Applies.nil s.out.lastApplied
  have pulse := (unwritten 1).append (a := .toolbox) (Nat.le_refl 1)
  cases i with
  | init | safeShutdown => exact ⟨_, rfl, .allOff _⟩
  | frameIn => rcases frameIn_cases s with ⟨-, e⟩ | ⟨k, -, e⟩ <;> exact ⟨_, e, unwritten 4⟩
  | outputTick =>
    rcases outputTick_cases s with ⟨-, e⟩ | ⟨-, e⟩
    · exact ⟨_, e, unwritten 4⟩
    · have lamp := Applies.emitOnChange (s := s.begin) (unwritten 0) (a := .lamp) (Nat.le_refl 0) (targets s.veh).1
      have parked := lamp.emitOnChange (a := .parkedInd) (by decide) (targets s.veh).2.1
      exact ⟨_, e, parked.emitOnChange (a := .unlockedInd) (by decide) (targets s.veh).2.2⟩
  | toolboxEval =>
    rcases toolboxEval_cases s with ⟨-, e⟩ | ⟨-, -, -, e⟩ | ⟨-, -, e⟩
    · exact ⟨_, e, unwritten 4⟩
    · exact ⟨_, e, (pulse true).mono (by decide)⟩
    · exact ⟨_, e, unwritten 4⟩
  | toolboxTimer =>
    rcases toolboxTimer_cases s with ⟨-, e⟩ | ⟨-, -, e⟩ | ⟨-, -, e⟩
    · exact ⟨_, e, unwritten 4⟩
    · exact ⟨_, e, (pulse false).mono (by decide)⟩
    · exact ⟨_, e, unwritten 4⟩
  | _ => exact ⟨_, rfl, unwritten 4⟩

/-- Settles O48: the clauses of `exec_applies`, whose bound on the actuator numbers served to build the list. -/
theorem writeListMatchesLevels : Obligations.WriteListMatchesLevels := by
  intro i s
  obtain ⟨t, ht, h⟩ := exec_applies i s
  exact ⟨t, ht, h.ascending, h.written, h.unwritten⟩

/-! ### The expansion of `TICK` -/

/-- R91: an `OUTPUT_TICK` is due unless one was issued less than `OUTPUT_PERIOD_MS` ago. -/
theorem outputDue_some_iff (c : Config) (u t : Time) :
    outputDue c (some u) t = true ↔ c.outputPeriodMs ≤ elapsed c.W t u := by
  simp [outputDue, wsub_eq_elapsed]

/-- The words of the commands every `TICK` issues (R73). -/
theorem encode_tick_commands :
    encode .frameIn = 0x0C#8 ∧ encode .recomputeReady = 0x0D#8 ∧ encode .buttonPoll = 0x10#8 ∧
    encode .toolboxEval = 0x19#8 ∧ encode .toolboxTimer = 0x1A#8 := by
  decide

/-- Settles O53: each line of the tick is its command's word with the ports the line sets; the last line and the remembered
time depend on `outputDue`. -/
theorem tickExpandsToCommands : Obligations.TickExpandsToCommands := by
  intro c last frames btn t hlen
  obtain ⟨frameIn, ready, poll, eval, timer⟩ := encode_tick_commands
  refine ⟨_, _, if_pos hlen, ?_, ?_⟩
  · simp only [tickLines, List.map_append, List.map_map, List.map_cons, List.map_nil, Function.comp_def, Line.event,
      frameInLine, frameIn, ready, poll, eval, timer]
    refine congrArg₂ (· ++ ·) rfl ?_
    cases last with
    | none => rfl
    | some u =>
      simp only [outputDue_some_iff]
      split <;> rfl
  · cases last with
    | none => rfl
    | some u => simp only [outputDue_some_iff]

end Sys2Proof.Machine

/-! ## Proofs: the codec, and what the commands without registers answer (spec 40_codec.md R100 to R106)

A field's value is known by its bits: what `SET` leaves in each bit of the frame gives what `EXTRACT` then reads. -/

namespace Sys2Proof.Machine

/-! ### `EXTRACT` and `SET` -/

/-- Bit `i` of a field's value is the bit of the frame `i` above the field's lowest, up to the field's length (R101). -/
theorem fieldValue_testBit (raw : FrameData) (sb len i : Nat) :
    (fieldValue raw sb len).testBit i = (decide (i < len) && raw.getLsbD (sb + 1 - len + i)) := by
  rw [fieldValue, Nat.testBit_mod_two_pow, Nat.testBit_div_two_pow, Nat.add_comm i, BitVec.testBit_toNat]

/-- R104: within the precondition, the field `SET` has written holds the value's low `len` bits. -/
theorem fieldValue_setField (raw : FrameData) {sb len : Nat} (v : Word) (h : inRange sb len = true) :
    fieldValue (setField raw sb len v) sb len = v.toNat % 2 ^ len := by
  obtain ⟨hpos, hlen, hsb, hfit⟩ := (inRange_iff sb len).1 h
  refine Nat.eq_of_testBit_eq fun i => ?_
  rw [fieldValue_testBit, Nat.testBit_mod_two_pow, BitVec.testBit_toNat]
  by_cases hi : i < len
  · have inSpan : sb + 1 - len ≤ sb + 1 - len + i ∧ sb + 1 - len + i ≤ sb := by omega
    rw [setField_getLsbD _ _ _ _ _ (by omega), if_pos ⟨hpos, hlen, hsb, hfit, inSpan⟩, Nat.add_sub_cancel_left]
  · simp [hi]

/-- R101: `EXTRACT` answers the codec's function of its ports. -/
theorem exec_extract (s : State) : exec .extract s = .next { s with
    rsp := some { Response.zero with value := extract s.inp.frameData s.inp.bfStart.toNat s.inp.bfLen.toNat }
    writes := [] } := rfl

/-- R103: `SET` answers the codec's function of its ports. -/
theorem exec_set (s : State) : exec .set s = .next { s with
    rsp := some { Response.zero with
      data := setField s.inp.frameData s.inp.bfStart.toNat s.inp.bfLen.toNat s.inp.bfValue }
    writes := [] } := rfl

/-- Settles O14: `extract` as exact arithmetic. -/
theorem extractReturnsField : Obligations.ExtractReturnsField := by
  intro s
  rw [exec_extract, extract_eq]

/-- Settles O15: `setField` bit by bit. -/
theorem setReplacesField : Obligations.SetReplacesField :=
  fun s => ⟨_, exec_set s, fun n hn => setField_getLsbD _ _ _ _ n hn⟩

/-- Settles O16: what `EXTRACT` reads is the field's value, which `SET` has written. -/
theorem setThenExtractReturnsValue : Obligations.SetThenExtractReturnsValue := by
  intro s hpos hlen hsb hfit
  refine ⟨_, exec_set s, ?_⟩
  rw [exec_extract, extract_eq, if_pos ⟨hpos, hlen, hsb, hfit⟩,
    fieldValue_setField _ _ ((inRange_iff _ _).2 ⟨hpos, hlen, hsb, hfit⟩)]

/-! ### Commands that read no register -/

/-- R118: the record a decoder makes depends on the ports and the configuration only. -/
theorem decoded_congr {s s' : State} (hinp : s.inp = s'.inp) (hcfg : s.cfg = s'.cfg) (k : Source) :
    s.decoded k = s'.decoded k := by
  simp only [State.decoded, State.now, hinp, hcfg]

/-- Settles O17: each of the commands answers by one expression, which stands in `s` for its ports and, for a decoder, for
the record `decoded_congr` speaks of. -/
theorem codecAndDecodersReadNoRegister : Obligations.CodecAndDecodersReadNoRegister := by
  intro i hi s s' hinp hcfg
  cases i with
  | extract | set | mayActivate => exact ⟨_, rfl, by rw [hinp]; rfl⟩
  | decodeLamp | decodeLock | decodePark | decodeBatt => exact ⟨_, rfl, by rw [decoded_congr hinp hcfg]; rfl⟩
  | _ => exact absurd hi (by decide)

end Sys2Proof.Machine

/-! ## Proofs: the decoders and the dispatch of a frame (spec 41_decoder.md R110 to R116)

A record has one closed form for a frame that fails the shape check and one, by source, for a frame that passes it; the
decode commands and `FRAME_IN` answer that record. -/

namespace Sys2Proof.Machine

/-! ### The record of a frame -/

/-- R110, a frame with another identifier or a length other than 8. -/
theorem State.decoded_of_mismatch {s : State} {k : Source} (h : s.inp.frameId ≠ s.cfg.id.get k ∨ s.inp.frameLen ≠ 8) :
    s.decoded k = ⟨false, 0, 0, 0, s.now⟩ :=
  if_pos h

/-- R110, a frame of the source: the loop over its signals. -/
theorem State.decoded_of_match {s : State} {k : Source} (hid : s.inp.frameId = s.cfg.id.get k)
    (hlen : s.inp.frameLen = 8) :
    s.decoded k = (sigs s.cfg k).foldl (decodeSignal s.inp.frameData) ⟨true, 0, 0, 0, s.now⟩ :=
  if_neg (by simp [hid, hlen])

/-- R112 to R114: the record of a frame of a source with one signal. -/
theorem State.decoded_of_single {s : State} {k : Source} {p : SigPos} {limit : Nat} (hl : s.cfg.legal = true)
    (hsigs : sigs s.cfg k = [⟨.f0, p, limit⟩]) (hid : s.inp.frameId = s.cfg.id.get k) (hlen : s.inp.frameLen = 8) :
    s.decoded k =
      { valid := decide (fieldValue s.inp.frameData p.start p.len ≤ limit)
        f0 := BitVec.ofNat 16 (fieldValue s.inp.frameData p.start p.len), f1 := 0, f2 := 0, ts := s.now } := by
  have meetsCodec : inRange p.start p.len = true := legal_signals s.cfg hl k ⟨.f0, p, limit⟩ (by simp [hsigs])
  rw [decoded_of_match hid hlen, hsigs, List.foldl_cons, List.foldl_nil, decodeSignal_eq _ _ _ meetsCodec, Bool.true_and]
  rfl

/-- R111: the record of a lamp frame, whose validity is that of its three signals together. -/
theorem State.decoded_lamp {s : State} (hl : s.cfg.legal = true) (hid : s.inp.frameId = s.cfg.id.lamp)
    (hlen : s.inp.frameLen = 8) :
    s.decoded .lamp =
      { valid :=
          decide (fieldValue s.inp.frameData s.cfg.sigPudLamp.start s.cfg.sigPudLamp.len ≤ s.cfg.maxLamp) &&
          decide (fieldValue s.inp.frameData s.cfg.sigIllum.start s.cfg.sigIllum.len ≤ s.cfg.maxIllum) &&
          decide (fieldValue s.inp.frameData s.cfg.sigCourtesy.start s.cfg.sigCourtesy.len ≤ s.cfg.maxCourtesy)
        f0 := BitVec.ofNat 16 (fieldValue s.inp.frameData s.cfg.sigPudLamp.start s.cfg.sigPudLamp.len)
        f1 := BitVec.ofNat 16 (fieldValue s.inp.frameData s.cfg.sigIllum.start s.cfg.sigIllum.len)
        f2 := BitVec.ofNat 16 (fieldValue s.inp.frameData s.cfg.sigCourtesy.start s.cfg.sigCourtesy.len)
        ts := s.now } := by
  have meetsCodec := legal_signals s.cfg hl .lamp
  simp only [sigs, List.forall_mem_cons] at meetsCodec
  obtain ⟨pudLamp, illum, courtesy, -⟩ := meetsCodec
  rw [decoded_of_match hid hlen, sigs, List.foldl_cons, List.foldl_cons, List.foldl_cons, List.foldl_nil,
    decodeSignal_eq _ _ _ courtesy, decodeSignal_eq _ _ _ illum, decodeSignal_eq _ _ _ pudLamp, Bool.true_and]
  rfl

/-! ### The decode commands and `FRAME_IN` -/

/-- Settles O18: the three commands answer `decoded` of a source with one signal. -/
theorem singleSignalDecodersReturnRecord : Obligations.SingleSignalDecodersReturnRecord := by
  intro s i id p limit hl hmem
  obtain ⟨k, rfl, rfl, hsigs⟩ :
      ∃ k, i = decodeInstr k ∧ id = s.cfg.id.get k ∧ sigs s.cfg k = [⟨.f0, p, limit⟩] := by
    simp only [List.mem_cons, List.not_mem_nil, or_false, Prod.mk.injEq] at hmem
    obtain ⟨rfl, rfl, rfl, rfl⟩ | ⟨rfl, rfl, rfl, rfl⟩ | ⟨rfl, rfl, rfl, rfl⟩ := hmem
    · exact ⟨.lock, rfl, rfl, rfl⟩
    · exact ⟨.park, rfl, rfl, rfl⟩
    · exact ⟨.batt, rfl, rfl, rfl⟩
  refine ⟨s.decoded k, exec_decodeInstr k s, decoded_ts s k, fun h => ?_, fun hid hlen => ?_⟩
  · rw [State.decoded_of_mismatch h]
  · rw [State.decoded_of_single hl hsigs hid hlen]
    exact ⟨rfl, rfl, rfl, rfl⟩

/-- Settles O19: the command answers `decoded` of the lamp. -/
theorem lampDecoderReturnsRecord : Obligations.LampDecoderReturnsRecord := by
  intro s hl
  refine ⟨s.decoded .lamp, exec_decodeInstr .lamp s, decoded_ts s .lamp, fun h => ?_, fun hid hlen => ?_⟩
  · rw [State.decoded_of_mismatch h]
  · rw [State.decoded_lamp hl hid hlen]
    exact ⟨by simp [and_assoc], rfl, rfl, rfl⟩

/-- Settles O20: in a legal configuration the identifier on the port names its own source, or none. -/
theorem frameInDecodesAndUpdates : Obligations.FrameInDecodesAndUpdates := by
  intro s hl
  constructor
  · intro hother
    exact exec_frameIn_of_none (sourceOfId_none s.cfg s.inp.frameId hother)
  · intro k hid
    have named : sourceOfId s.cfg s.inp.frameId = some k := by rw [hid, sourceOfId_get s.cfg hl k]
    exact exec_frameIn_of_some named

end Sys2Proof.Machine

/-! ## Proofs: the aggregator and the status reads (spec 42_aggregator.md R130 to R142, 43_button.md R159)

An update has one equation for every source; its formulas are spelled out source by source. Readiness is spelled out in
exact elapsed time once, from which its boundary follows. -/

namespace Sys2Proof.Machine

/-! ### Updates of a source -/

/-- R135: the lamp flag's formula as a proposition. -/
theorem lampOn_eq_decide (c : Config) (v : Byte) : lampOn c v = decide (v = c.codeOn ∨ v = c.codeRampUp) :=
  (Bool.decide_or _ _).symm

/-- R136: the lock flag's formula as a proposition. -/
theorem unlocked_eq_decide (c : Config) (v : Byte) :
    unlocked c v = decide (v = c.codeUnlockAll ∨ v = c.codeUnlockDrv) :=
  (Bool.decide_or _ _).symm

/-- R131 to R134, field by field: an update changes the vehicle registers only. -/
theorem exec_updateInstr_eq (k : Source) (s : State) : exec (updateInstr k) s = .next { s with
    rsp := some Response.zero, writes := []
    veh := s.veh.update s.cfg k s.recIn } :=
  exec_updateInstr k s

/-- R130, an invalid record on the ports. -/
theorem exec_updateInstr_of_invalid {s : State} (h : s.inp.recValid = false) (k : Source) :
    exec (updateInstr k) s = .next { s with rsp := some Response.zero, writes := [] } := by
  have ignored : s.veh.update s.cfg k s.recIn = s.veh := if_neg (by simp [State.recIn, h])
  rw [exec_updateInstr_eq, ignored]

/-- R130, a valid record on the ports: stored at its source, whose flag is recomputed. -/
theorem exec_updateInstr_of_valid {s : State} (h : s.inp.recValid = true) (k : Source) :
    exec (updateInstr k) s = .next { s with
      rsp := some Response.zero, writes := []
      veh := VehicleRegs.recompute s.cfg
        { s.veh with
          prev := s.veh.prev.set k (s.veh.cur.get k)
          cur := s.veh.cur.set k (s.inp.recF0.setWidth 8)
          ts := s.veh.ts.set k (s.inp.recTs % 2 ^ s.cfg.W)
          seen := s.veh.seen.set k true } k (s.inp.recF0.setWidth 8) } := by
  rw [exec_updateInstr_eq, VehicleRegs.update, if_pos (show s.recIn.valid = true from h)]
  rfl

/-- Settles O22: the two equations of an update, the second with `set`, `get` and the owned flag's formula spelled out for
each source. -/
theorem updateStoresRecordAndOwnedFlag : Obligations.UpdateStoresRecordAndOwnedFlag := by
  intro s
  refine ⟨fun i hi hinvalid => ?_, fun hvalid => ⟨?lamp, ?lock, ?park, ?batt⟩⟩
  · obtain ⟨k, rfl⟩ : ∃ k, i = updateInstr k := by
      simp only [List.mem_cons, List.not_mem_nil, or_false] at hi
      obtain rfl | rfl | rfl | rfl := hi
      exacts [⟨.lamp, rfl⟩, ⟨.lock, rfl⟩, ⟨.park, rfl⟩, ⟨.batt, rfl⟩]
    exact exec_updateInstr_of_invalid hinvalid k
  case lamp =>
    rw [← lampOn_eq_decide]
    exact exec_updateInstr_of_valid hvalid .lamp
  case lock =>
    rw [← unlocked_eq_decide]
    exact exec_updateInstr_of_valid hvalid .lock
  case park => exact exec_updateInstr_of_valid hvalid .park
  case batt => exact exec_updateInstr_of_valid hvalid .batt

/-! ### Readiness -/

/-- The word of a 1-bit result (30_encoding.md R69). -/
theorem boolWord_eq_ite (b : Bool) : boolWord b = if b then 1 else 0 := by
  cases b <;> rfl

/-- R139: the register and the response take the readiness at `in.now`. -/
theorem exec_recomputeReady (s : State) : exec .recomputeReady s = .next { s with
    rsp := some { Response.zero with value := boolWord (readiness s.cfg s.veh s.now) }
    writes := []
    veh := { s.veh with systemReady := readiness s.cfg s.veh s.now } } := rfl

/-- R138 at `in.now`, in exact arithmetic from the value driven on the port. -/
theorem fresh_now_iff (s : State) (k : Source) :
    fresh s.cfg s.veh k s.now = true ↔
      s.veh.seen.get k = true ∧ elapsed s.cfg.W s.inp.now (s.veh.ts.get k) < s.cfg.readyTimeoutMs.get k := by
  rw [fresh_iff, ← wsub_eq_elapsed, wsub_now]

/-- Settles O23: readiness under each policy, with freshness as exact elapsed time. -/
theorem recomputeReadyFollowsPolicy : Obligations.RecomputeReadyFollowsPolicy := by
  intro s
  refine ⟨readiness s.cfg s.veh s.now, ?_, fun hany => ?_, fun hall => ?_⟩
  · rw [exec_recomputeReady, boolWord_eq_ite]
  · simp only [readiness_any _ _ _ hany, fresh_now_iff]
  · simp only [readiness_all _ _ _ hall, fresh_now_iff]

/-- Under `ANY`, when no source but `k` is fresh, readiness is the freshness of `k` (R138, R139). -/
theorem readiness_of_lone_source {c : Config} {v : VehicleRegs} {k : Source} {now : Time} (hany : c.readyPolicy = .any)
    (hother : ∀ j, j ≠ k → ¬ fresh c v j now = true) : readiness c v now = fresh c v k now := by
  rw [Bool.eq_iff_iff, readiness_any c v now hany]
  refine ⟨fun ⟨j, hj⟩ => ?_, fun hk => ⟨k, hk⟩⟩
  obtain rfl : j = k := by_contra fun hjk => hother j hjk hj
  exact hj

/-- A clock that shows `t + d` modulo 2^W is `d` after `t`, for a `d` below 2^W (00_scope.md R8). -/
theorem elapsed_add_mod {W d : Nat} (t : Time) (hd : d < 2 ^ W) : elapsed W ((t + d) % 2 ^ W) t = d := by
  rw [← wsub_eq_elapsed, wsub_mod_left, wsub_add, Nat.mod_eq_of_lt hd]

/-- Settles O24: readiness is the freshness of the lone source, whose elapsed time is `d`, at each of the three points below
2^W. -/
theorem readinessEndsAtTimeout : Obligations.ReadinessEndsAtTimeout := by
  intro s k d hany hseen hpos hwidth hd hnow hother
  have lone : readiness s.cfg s.veh s.now = fresh s.cfg s.veh k s.now :=
    readiness_of_lone_source hany fun j hj => mt (fresh_now_iff s j).1 (hother j hj)
  simp only [List.mem_cons, List.not_mem_nil, or_false] at hd
  have elapses : elapsed s.cfg.W s.inp.now (s.veh.ts.get k) = d := by
    rw [hnow, elapsed_add_mod _ (by omega)]
  refine ⟨_, exec_recomputeReady s, lone.trans ?_⟩
  rw [Bool.eq_iff_iff, fresh_now_iff, elapses, decide_eq_true_iff]
  exact ⟨fun ⟨_, hfresh⟩ => by omega, fun hbefore => ⟨hseen, by omega⟩⟩

/-! ### The health watchdog's touch and the status reads -/

/-- Settles O25: the command's equation, with `fill` and `now` computed. -/
theorem touchFreshnessMarksEverySource : Obligations.TouchFreshnessMarksEverySource :=
  fun _ => rfl

/-- Settles O26: the commands' equations, with the button registers' status copied field by field. -/
theorem statusReadsCopyRegisters : Obligations.StatusReadsCopyRegisters :=
  fun _ => ⟨rfl, rfl⟩

end Sys2Proof.Machine

/-! ## Proofs: the button detector (spec 43_button.md R150 to R158, R161)

A poll has one equation for each committed level before and after it. The two laws about runs of polls each follow one quantity
along the run: the debounce law the level that is still waiting, the double-click law whether the latest press was a hold. -/

namespace Sys2Proof.Machine

/-! ### One poll, by the committed level before it and after it -/

section OnePoll

variable {c : Config} {b : ButtonRegs} {now : Time} {p : Bool}

/-- R152: the poll that commits a press. -/
theorem ButtonRegs.poll_of_press (hd : b.debouncedState = false) (hl : levelAt c b now p = true) :
    b.poll c now p =
      ({ b with
          rawState := p, debouncedState := true, previousDebouncedState := false
          lastChangeTime := changeTimeAt b now p
          pressedEdge := true
          pressCount := (b.pressCount + 1) % 2 ^ c.pressCountW
          doubleClickPending := decide (b.doubleClickPending = true ∨ (b.hasPrevPress = true ∧
            elapsed c.W now b.lastPressTime < c.doubleClickMs ∧ b.prevPressWasHold = false))
          lastPressTime := now
          hasPrevPress := true
          isHeld := false
          holdDurationMs := 0 }, false) := by
  simp [poll_eq, hd, hl, ButtonRegs.pressStep, ButtonRegs.isDoubleClick, wsub_eq_elapsed, Bool.decide_or, Bool.decide_and,
    Bool.and_assoc]

/-- R153: the poll that commits a release. -/
theorem ButtonRegs.poll_of_release (hd : b.debouncedState = true) (hl : levelAt c b now p = false) :
    b.poll c now p =
      ({ b with
          rawState := p, debouncedState := false, previousDebouncedState := true
          lastChangeTime := changeTimeAt b now p
          releasedEdge := true
          prevPressWasHold := b.isHeld
          holdDurationMs := elapsed c.W now b.lastPressTime
          isHeld := false }, false) := by
  simp [poll_eq, hd, hl, ButtonRegs.releaseStep, wsub_eq_elapsed]

/-- R154: a poll that stays pressed. -/
theorem ButtonRegs.poll_of_stays_pressed (hd : b.debouncedState = true) (hl : levelAt c b now p = true) :
    b.poll c now p =
      ({ b with
          rawState := p, previousDebouncedState := true, lastChangeTime := changeTimeAt b now p
          holdDurationMs := elapsed c.W now b.lastPressTime
          isHeld := decide (b.isHeld = true ∨ c.holdMs < elapsed c.W now b.lastPressTime) },
        decide (c.holdMs < elapsed c.W now b.lastPressTime ∧ b.isHeld = false)) := by
  simp [poll_eq, hd, hl, holdStep_eq, Bool.decide_or, Bool.decide_and, Bool.and_comm]

/-- R150, R151: a poll that stays released. -/
theorem ButtonRegs.poll_of_stays_released (hd : b.debouncedState = false) (hl : levelAt c b now p = false) :
    b.poll c now p =
      ({ b with rawState := p, previousDebouncedState := false, lastChangeTime := changeTimeAt b now p }, false) := by
  simp [poll_eq, hd, hl]

end OnePoll

/-- R151: what every poll does to the sampled and the committed level. -/
@[simp] theorem ButtonRegs.poll_levels (c : Config) (b : ButtonRegs) (now : Time) (p : Bool) :
    (b.poll c now p).1.previousDebouncedState = b.debouncedState ∧
    (b.poll c now p).1.rawState = p ∧
    (b.poll c now p).1.lastChangeTime = changeTimeAt b now p ∧
    (b.poll c now p).1.debouncedState = levelAt c b now p := by
  cases hd : b.debouncedState <;> cases hl : levelAt c b now p
  case false.false => simp [poll_of_stays_released hd hl, hd]
  case false.true => simp [poll_of_press hd hl]
  case true.false => simp [poll_of_release hd hl]
  case true.true => simp [poll_of_stays_pressed hd hl, hd]

/-- R151 with its first condition: a level committed already needs no commit. -/
theorem levelAt_eq_ite (c : Config) (b : ButtonRegs) (now : Time) (p : Bool) :
    levelAt c b now p = if p ≠ b.debouncedState ∧ c.debounceMs ≤ elapsed c.W now (changeTimeAt b now p) then p
      else b.debouncedState := by
  unfold levelAt
  by_cases hp : p = b.debouncedState
  · simp [hp]
  · simp [hp]

/-! ### The commands -/

/-- R150: the command polls the registers at `in.now` and answers the observation of a hold. -/
theorem exec_buttonPoll (s : State) : exec .buttonPoll s = .next { s with
    rsp := some { Response.zero with heldEv := (s.btn.poll s.cfg s.now s.inp.btnPressed).2 }
    writes := []
    btn := (s.btn.poll s.cfg s.now s.inp.btnPressed).1 } := rfl

/-- Elapsed time at the sampled port is elapsed time at the value driven on it. -/
theorem elapsed_now (s : State) (t : Time) : elapsed s.cfg.W s.now t = elapsed s.cfg.W s.inp.now t := by
  rw [← wsub_now, wsub_eq_elapsed]

/-- Settles O27: the levels of `poll_levels` at `in.now`. -/
theorem pollDebouncesSample : Obligations.PollDebouncesSample := by
  intro s
  obtain ⟨previous, raw, change, level⟩ := s.btn.poll_levels s.cfg s.now s.inp.btnPressed
  refine ⟨_, _, exec_buttonPoll s, previous, raw, change, ?_⟩
  rw [level, levelAt_eq_ite, change, elapsed_now]

/-- Settles O28: the equation of the press poll at `in.now`. -/
theorem pollPressEdge : Obligations.PollPressEdge := by
  intro s hd hl
  rw [exec_buttonPoll, ButtonRegs.poll_of_press (now := s.now) hd hl, elapsed_now]
  rfl

/-- Settles O29: the equation of the release poll at `in.now`. -/
theorem pollReleaseEdge : Obligations.PollReleaseEdge := by
  intro s hd hl
  rw [exec_buttonPoll, ButtonRegs.poll_of_release (now := s.now) hd hl, elapsed_now]
  rfl

/-- Settles O30: the equation of the poll that stays pressed, at `in.now`. -/
theorem pollHoldStep : Obligations.PollHoldStep := by
  intro s hd hl
  rw [exec_buttonPoll, ButtonRegs.poll_of_stays_pressed (now := s.now) hd hl, elapsed_now]
  rfl

/-- Settles O31: the equation of the poll that stays released, at `in.now`. -/
theorem pollWhileReleased : Obligations.PollWhileReleased := by
  intro s hd hl
  rw [exec_buttonPoll, ButtonRegs.poll_of_stays_released (now := s.now) hd hl]
  rfl

/-- Settles O34: the reads' equations, with the bit as a word. -/
theorem edgeReadsReturnAndClear : Obligations.EdgeReadsReturnAndClear := by
  intro s
  simp only [← boolWord_eq_ite]
  exact ⟨rfl, rfl, rfl⟩

/-! ### The debounce law -/

/-- `b'` has the committed level of `b`, and no edge was committed on the way to it. -/
structure ButtonRegs.NoCommit (b b' : ButtonRegs) : Prop where
  level : b'.debouncedState = b.debouncedState
  pressed : b'.pressedEdge = b.pressedEdge
  released : b'.releasedEdge = b.releasedEdge
  count : b'.pressCount = b.pressCount

theorem ButtonRegs.NoCommit.trans {b b' b'' : ButtonRegs} (h : b.NoCommit b') (h' : b'.NoCommit b'') : b.NoCommit b'' :=
  ⟨h'.level.trans h.level, h'.pressed.trans h.pressed, h'.released.trans h.released, h'.count.trans h.count⟩

/-- R151: a poll that finds the sampled level not stable for long enough commits nothing. -/
theorem ButtonRegs.NoCommit.poll {c : Config} {b : ButtonRegs} {now : Time} {p : Bool}
    (early : elapsed c.W now (changeTimeAt b now p) < c.debounceMs) : b.NoCommit (b.poll c now p).1 := by
  have hl : levelAt c b now p = b.debouncedState := if_neg (Nat.not_le.2 early)
  cases hd : b.debouncedState
  case false => rw [poll_of_stays_released hd (hl.trans hd)]; exact ⟨rfl, rfl, rfl, rfl⟩
  case true => rw [poll_of_stays_pressed hd (hl.trans hd)]; exact ⟨rfl, rfl, rfl, rfl⟩

/-- A poll that samples a level other than the raw one commits nothing: the level is stable since this poll only. -/
theorem ButtonRegs.NoCommit.poll_of_change {c : Config} {b : ButtonRegs} {p : Bool} (hpos : 0 < c.debounceMs)
    (hp : p ≠ b.rawState) (now : Time) : b.NoCommit (b.poll c now p).1 :=
  .poll (by rwa [changeTimeAt, if_neg hp, ← wsub_eq_elapsed, wsub_self])

/-- R161: while the level `p`, sampled since `t0`, waits for its commit, polls of it within `DEBOUNCE_MS` of `t0` commit nothing
and leave it waiting. -/
theorem pollEnd_of_waiting {c : Config} {p : Bool} {t0 : Time} (times : List Time) (b : ButtonRegs) (hraw : b.rawState = p)
    (hchange : b.lastChangeTime = t0) (early : ∀ q ∈ times, elapsed c.W q t0 < c.debounceMs) :
    b.NoCommit (pollEnd c b (times.map fun q => (q, p))) ∧
    (pollEnd c b (times.map fun q => (q, p))).rawState = p ∧
    (pollEnd c b (times.map fun q => (q, p))).lastChangeTime = t0 := by
  induction times generalizing b with
  | nil => exact ⟨⟨rfl, rfl, rfl, rfl⟩, hraw, hchange⟩
  | cons q rest ih =>
    obtain ⟨hq, hrest⟩ := List.forall_mem_cons.1 early
    have stable : changeTimeAt b q p = t0 := by rw [changeTimeAt, if_pos hraw.symm, hchange]
    obtain ⟨kept, raw, change⟩ := ih (b.poll c q p).1 (by simp) (by simp [stable]) hrest
    exact ⟨(ButtonRegs.NoCommit.poll (by rwa [stable])).trans kept, raw, change⟩

/-- R152, R153: the poll that commits a level sets its edge flag. -/
theorem ButtonRegs.poll_commits {c : Config} {b : ButtonRegs} {now : Time} {p : Bool} (hp : p ≠ b.debouncedState)
    (hl : levelAt c b now p = p) :
    (b.poll c now p).1.debouncedState = p ∧ (p = true → (b.poll c now p).1.pressedEdge = true) ∧
    (p = false → (b.poll c now p).1.releasedEdge = true) := by
  cases p
  case false => rw [poll_of_release (by simpa using hp.symm) hl]; exact ⟨rfl, nofun, fun _ => rfl⟩
  case true => rw [poll_of_press (by simpa using hp.symm) hl]; exact ⟨rfl, fun _ => rfl, nofun⟩

/-- Settles O32: the change starts the wait at `t0`, the early polls keep it, and then the level commits or the other level
restarts it. -/
theorem debounceCommitsStableLevelOnly : Obligations.DebounceCommitsStableLevelOnly := by
  intro c b p t0 t times hraw hlevel hpos early e
  have started : b.NoCommit (b.poll c t0 p).1 := .poll_of_change hpos hraw t0
  obtain ⟨waited, raw, change⟩ : (b.poll c t0 p).1.NoCommit e ∧ e.rawState = p ∧ e.lastChangeTime = t0 :=
    pollEnd_of_waiting times _ (by simp) (by simp [changeTimeAt, hraw]) early
  have kept : b.NoCommit e := started.trans waited
  refine ⟨⟨kept.level, kept.pressed, kept.released, kept.count⟩, fun late => ?_, ?_⟩
  · have commits : levelAt c e t p = p := if_pos (by rwa [changeTimeAt, if_pos raw.symm, change])
    exact ButtonRegs.poll_commits (kept.level ▸ hlevel) commits
  · have other : (!p) ≠ e.rawState := by simp [raw]
    obtain ⟨level, pressed, released, count⟩ := kept.trans (.poll_of_change hpos other t)
    exact ⟨level, pressed, released, count⟩

/-! ### The double-click law -/

/-- Whether the latest press is a hold, or was one (R152 to R154): `isHeld` until its release, `prevPressWasHold` after it. -/
def ButtonRegs.latestPressHeld (b : ButtonRegs) : Bool := if b.debouncedState then b.isHeld else b.prevPressWasHold

theorem ButtonRegs.poll_rose_iff (c : Config) (b : ButtonRegs) (now : Time) (p : Bool) :
    (b.poll c now p).1.rose = true ↔ b.debouncedState = false ∧ levelAt c b now p = true := by
  simp [ButtonRegs.rose, and_comm]

/-- R153, R154: a poll without a press edge keeps the latest press, which is a hold afterwards if it was before or the poll
reports it. -/
theorem ButtonRegs.poll_of_not_rose {c : Config} {b : ButtonRegs} {now : Time} {p : Bool}
    (h : (b.poll c now p).1.rose = false) :
    (b.poll c now p).1.hasPrevPress = b.hasPrevPress ∧ (b.poll c now p).1.lastPressTime = b.lastPressTime ∧
    (b.poll c now p).1.latestPressHeld = (b.latestPressHeld || (b.poll c now p).2) := by
  cases hd : b.debouncedState <;> cases hl : levelAt c b now p
  case false.false => simp [poll_of_stays_released hd hl, latestPressHeld, hd]
  case false.true => simp [(b.poll_rose_iff c now p).2 ⟨hd, hl⟩] at h
  case true.false => simp [poll_of_release hd hl, latestPressHeld, hd]
  case true.true => cases hh : b.isHeld <;> simp [poll_of_stays_pressed hd hl, latestPressHeld, hd, hh]

/-- Polls without a press edge keep the latest press, which is a hold afterwards if it was before or one of them reports it. -/
theorem pollEnd_of_not_rose {c : Config} (polls : List (Time × Bool)) (b : ButtonRegs)
    (h : ∀ r ∈ pollTrace c b polls, r.1.rose = false) :
    (pollEnd c b polls).hasPrevPress = b.hasPrevPress ∧ (pollEnd c b polls).lastPressTime = b.lastPressTime ∧
    (pollEnd c b polls).latestPressHeld = (b.latestPressHeld || (pollTrace c b polls).any (·.2)) := by
  induction polls generalizing b with
  | nil => simp [pollEnd, pollTrace]
  | cons q rest ih =>
    obtain ⟨hq, hrest⟩ := List.forall_mem_cons.1 h
    obtain ⟨prev, time, held⟩ := ButtonRegs.poll_of_not_rose hq
    obtain ⟨prevEnd, timeEnd, heldEnd⟩ := ih _ hrest
    refine ⟨prevEnd.trans prev, timeEnd.trans time, heldEnd.trans ?_⟩
    rw [held, pollTrace, List.any_cons, Bool.or_assoc]

/-- R152: what the press edge makes of the double-click flag. -/
theorem ButtonRegs.poll_doubleClickPending_iff {c : Config} {b : ButtonRegs} {now : Time} {p : Bool}
    (h : (b.poll c now p).1.rose = true) :
    (b.poll c now p).1.doubleClickPending = true ↔ b.doubleClickPending = true ∨ (b.hasPrevPress = true ∧
      elapsed c.W now b.lastPressTime < c.doubleClickMs ∧ b.latestPressHeld = false) := by
  obtain ⟨hd, hl⟩ := (b.poll_rose_iff c now p).1 h
  simp [poll_of_press hd hl, latestPressHeld, hd]

/-- Settles O33: up to `t2` the latest press is the one `b` has committed, and it was a hold if a poll reported it. -/
theorem doubleClickNeedsShortUnheldPress : Obligations.DoubleClickNeedsShortUnheldPress := by
  intro c b polls t2 p hd hprev hheld hbetween hrose
  obtain ⟨prev, time, held⟩ := pollEnd_of_not_rose polls b hbetween
  have notHeld : b.latestPressHeld = false := by rw [ButtonRegs.latestPressHeld, if_pos hd, hheld]
  rw [ButtonRegs.poll_doubleClickPending_iff hrose, prev, time, held, notHeld]
  simp [hprev]

end Sys2Proof.Machine

/-! ## Proofs: the outputs (spec 44_output.md R170 to R180)

Each actuator-driving command gets its equation; `exec_output_cases` then says once what any command can do to the applied
levels and the write list, and the two safety claims of the whole machine are case analyses on it. -/

namespace Sys2Proof.Machine

/-! ### The gate and the forced shutdown -/

/-- R170, R82: the gate on the three bits of `pred_in` is 1 for 0b111 only. -/
theorem toolboxMayActivate_bits (p : BitVec 3) :
    toolboxMayActivate (p.getLsbD 2) (p.getLsbD 1) (p.getLsbD 0) = decide (p = 0b111#3) := by
  revert p; decide

/-- Settles O35: the command's one bit is the gate on `pred_in`. -/
theorem gateOpensOnlyForAllThree : Obligations.GateOpensOnlyForAllThree := by
  intro s
  have answer : exec .mayActivate s = .next (s.begin.respondBit (toolboxMayActivate (s.inp.predIn.getLsbD 2)
    (s.inp.predIn.getLsbD 1) (s.inp.predIn.getLsbD 0))) := rfl
  rw [answer, toolboxMayActivate_bits, State.respondBit, boolWord_eq_ite]
  simp only [decide_eq_true_eq]
  rfl

/-- Settles O41: the command's equation, with the four off-writes on an empty list as in `State.emitAllOff_eq`. -/
theorem safeShutdownForcesAllOff : Obligations.SafeShutdownForcesAllOff :=
  fun _ => rfl

/-! ### The state-driven actuators -/

/-- R172: each target is its flag, gated by `systemReady`. -/
theorem targets_eq (v : VehicleRegs) :
    targets v = (v.systemReady && v.lampShouldBeOn, v.systemReady && v.isParked, v.systemReady && v.isUnlocked) := by
  cases h : v.systemReady <;> simp [targets, h]

/-- The levels an `OUTPUT_TICK` in Normal mode leaves (R172, R173). -/
def State.tickLevels (s : State) : PerActuator Bool :=
  { s.out.lastApplied with
    lamp := s.veh.systemReady && s.veh.lampShouldBeOn
    parkedInd := s.veh.systemReady && s.veh.isParked
    unlockedInd := s.veh.systemReady && s.veh.isUnlocked }

/-- The writes an `OUTPUT_TICK` in Normal mode emits: the targets that differ from the level applied before (R173). -/
def State.tickWrites (s : State) : List WriteEvent :=
  [(⟨.lamp, s.veh.systemReady && s.veh.lampShouldBeOn⟩ : WriteEvent),
   ⟨.parkedInd, s.veh.systemReady && s.veh.isParked⟩,
   ⟨.unlockedInd, s.veh.systemReady && s.veh.isUnlocked⟩].filter fun e => e.level != s.out.lastApplied.get e.actuator

/-- Writing the level an actuator already has changes nothing. -/
theorem perActuator_set_get {α : Type} (v : PerActuator α) (a : Actuator) : v.set a (v.get a) = v := by
  cases a <;> rfl

/-- A conditional write as one record: the target is applied, and the event is listed if it changes the level (R173). -/
theorem State.emitOnChange_eq (s : State) (a : Actuator) (v : Bool) :
    s.emitOnChange a v = { s with
      writes := s.writes ++ [(⟨a, v⟩ : WriteEvent)].filter fun e => e.level != s.out.lastApplied.get e.actuator
      out := { s.out with lastApplied := s.out.lastApplied.set a v } } := by
  rcases s.emitOnChange_cases a v with ⟨rfl, e⟩ | ⟨hne, e⟩ <;> rw [e]
  · simp [perActuator_set_get]
  · simp [hne, State.emit]

/-- R173 in Normal mode as one record: the conditional writes are of different actuators, so each compares its target with the
level before the command. -/
theorem exec_outputTick_eq {s : State} (hs : s.shutdown = false) : exec .outputTick s = .next { s with
    rsp := some Response.zero
    out := { s.out with lastApplied := s.tickLevels }
    writes := s.tickWrites } := by
  have filter_three : ∀ (p : WriteEvent → Bool) (e f g : WriteEvent),
      [e, f, g].filter p = [] ++ [e].filter p ++ [f].filter p ++ [g].filter p := fun p e f g => by
    rw [List.nil_append, ← List.filter_append, ← List.filter_append]; rfl
  rw [exec_outputTick_normal hs, targets_eq, State.tickWrites, filter_three]
  simp only [State.emitOnChange_eq]
  rfl

/-- Settles O36: `exec_suppressed` in Shutdown mode, `exec_outputTick_eq` in Normal mode. -/
theorem outputTickAppliesTargetsOnChange : Obligations.OutputTickAppliesTargetsOnChange :=
  fun _ => ⟨exec_suppressed (by decide), exec_outputTick_eq⟩

/-- Settles O37: every target is gated by `systemReady`. -/
theorem staleDataForcesOutputsOff : Obligations.StaleDataForcesOutputsOff := by
  intro s hready hs
  refine ⟨_, exec_outputTick_eq hs, ?_⟩
  simp [State.tickLevels, hready]

/-! ### The toolbox pulse -/

/-- Settles O38: `exec_suppressed` in Shutdown mode; in Normal mode by whether the pulse starts. -/
theorem toolboxEvalStartsPulse : Obligations.ToolboxEvalStartsPulse := by
  refine fun s => ⟨exec_suppressed (by decide), fun hs => ?_⟩
  have go : s.toolboxGo = (s.btn.pressedEdge && s.veh.systemReady && s.veh.isParked && s.veh.isUnlocked) := by
    simp only [State.toolboxGo, toolboxMayActivate, Bool.and_assoc]
  simp only [← go, ← boolWord_eq_ite]
  rw [exec_toolboxEval_normal hs]
  by_cases hstart : (s.toolboxGo && !s.out.toolboxActive) = true
  · simp only [if_pos hstart]; rfl
  · simp only [if_neg hstart]; rfl

/-- R176: when a pulse has run its time, in exact arithmetic from the value driven on the port. -/
theorem State.pulseDue_iff (s : State) : s.pulseDue = true ↔
    s.out.toolboxActive = true ∧ s.cfg.toolboxMs ≤ elapsed s.cfg.W s.inp.now s.out.toolboxStart := by
  rw [State.pulseDue, wsub_now, Bool.and_eq_true, decide_eq_true_iff]

/-- Settles O39: `exec_suppressed` in Shutdown mode; in Normal mode by whether the pulse is due. -/
theorem toolboxTimerEndsPulse : Obligations.ToolboxTimerEndsPulse := by
  refine fun s => ⟨exec_suppressed (by decide), fun hs => ?_⟩
  rw [exec_toolboxTimer_normal hs]
  simp only [← State.pulseDue_iff]
  split <;> rfl

/-- Settles O40: the pulse is due by its elapsed time, which is one short of `TOOLBOX_MS` at the first point and `TOOLBOX_MS`
at the second. -/
theorem pulseLastsToolboxTime : Obligations.PulseLastsToolboxTime := by
  intro s hs hactive hpos hwidth
  rw [exec_toolboxTimer_normal hs]
  refine ⟨fun hnow => ?_, fun hnow => ?_⟩
  · have elapses : elapsed s.cfg.W s.inp.now s.out.toolboxStart = s.cfg.toolboxMs - 1 := by
      rw [hnow, Nat.add_sub_assoc hpos, elapsed_add_mod _ (by omega)]
    have running : ¬ s.pulseDue = true := fun hdue => by have := (s.pulseDue_iff.1 hdue).2; omega
    exact ⟨_, if_neg running, rfl⟩
  · have elapses : elapsed s.cfg.W s.inp.now s.out.toolboxStart = s.cfg.toolboxMs := by
      rw [hnow, elapsed_add_mod _ hwidth]
    have due : s.pulseDue = true := s.pulseDue_iff.2 ⟨hactive, elapses.ge⟩
    exact ⟨_, if_pos due, rfl, rfl⟩

/-! ### Shutdown mode -/

/-- Settles O42: the three commands by `exec_suppressed`; no other command reads the mode but to copy it, so each leaves the
same in both modes. -/
theorem shutdownSuppressesActuatorCommands : Obligations.ShutdownSuppressesActuatorCommands := by
  refine fun i s hs => ⟨fun hi => exec_suppressed hi hs, fun hi => ?_⟩
  cases i with
  | outputTick | toolboxEval | toolboxTimer => exact absurd (by decide) hi
  | frameIn =>
    cases h : sourceOfId s.cfg s.inp.frameId with
    | none =>
      exact ⟨_, _, exec_frameIn_of_none h, exec_frameIn_of_none h, rfl, rfl, rfl, rfl, fun _ => rfl, by simp [hs]⟩
    | some k =>
      exact ⟨_, _, exec_frameIn_of_some h, exec_frameIn_of_some h, rfl, rfl, rfl, rfl, fun _ => rfl, by simp [hs]⟩
  | snapshot => exact ⟨_, _, rfl, rfl, rfl, rfl, rfl, rfl, fun h => absurd rfl h, by simp [hs]⟩
  | _ => exact ⟨_, _, rfl, rfl, rfl, rfl, rfl, rfl, fun _ => rfl, by simp [hs]⟩

/-! ### What a command does to the levels -/

/-- What a command does to the applied levels, and what it writes: nothing; or `INIT` and `SAFE_SHUTDOWN` turn all off; or, in
Normal mode, `OUTPUT_TICK` applies the targets, `TOOLBOX_EVAL` starts a pulse, or `TOOLBOX_TIMER` ends one. -/
theorem exec_output_cases {i : Instr} {s t : State} (h : exec i s = .next t) :
    (t.out.lastApplied = s.out.lastApplied ∧ t.writes = []) ∨
    ((i = .init ∨ i = .safeShutdown) ∧ t.out.lastApplied = PerActuator.fill false) ∨
    (i = .outputTick ∧ s.shutdown = false ∧ t.out.lastApplied = s.tickLevels ∧ t.writes = s.tickWrites) ∨
    (i = .toolboxEval ∧ s.shutdown = false ∧ (s.toolboxGo = true ∧ s.out.toolboxActive = false) ∧
      t.out.lastApplied = s.out.lastApplied.set .toolbox true ∧ t.writes = [⟨.toolbox, true⟩]) ∨
    (i = .toolboxTimer ∧ s.shutdown = false ∧ s.out.toolboxActive = true ∧
      t.out.lastApplied = s.out.lastApplied.set .toolbox false ∧ t.writes = [⟨.toolbox, false⟩]) := by
  cases i with
  | init => cases h; exact .inr (.inl ⟨.inl rfl, rfl⟩)
  | safeShutdown => cases h; exact .inr (.inl ⟨.inr rfl, rfl⟩)
  | frameIn => rcases frameIn_cases s with ⟨-, e⟩ | ⟨k, -, e⟩ <;> rw [e] at h <;> cases h <;> exact .inl ⟨rfl, rfl⟩
  | outputTick =>
    cases hs : s.shutdown with
    | true => rw [exec_suppressed (by decide) hs] at h; cases h; exact .inl ⟨rfl, rfl⟩
    | false => rw [exec_outputTick_eq hs] at h; cases h; exact .inr (.inr (.inl ⟨rfl, rfl, rfl, rfl⟩))
  | toolboxEval =>
    rcases toolboxEval_cases s with ⟨-, e⟩ | ⟨hs, hgo, hidle, e⟩ | ⟨-, -, e⟩ <;> rw [e] at h <;> cases h
    · exact .inl ⟨rfl, rfl⟩
    · exact .inr (.inr (.inr (.inl ⟨rfl, hs, ⟨hgo, hidle⟩, rfl, rfl⟩)))
    · exact .inl ⟨rfl, rfl⟩
  | toolboxTimer =>
    rcases toolboxTimer_cases s with ⟨-, e⟩ | ⟨hs, hdue, e⟩ | ⟨-, -, e⟩ <;> rw [e] at h <;> cases h
    · exact .inl ⟨rfl, rfl⟩
    · exact .inr (.inr (.inr (.inr ⟨rfl, hs, (s.pulseDue_iff.1 hdue).1, rfl, rfl⟩)))
    · exact .inl ⟨rfl, rfl⟩
  | _ => cases h; exact .inl ⟨rfl, rfl⟩

/-- Settles O49: `OUTPUT_TICK` lists the targets that differ; a pulse starts while inactive and ends while active, and the
toolbox level agrees with the pulse. -/
theorem writesChangeTheLevel : Obligations.WritesChangeTheLevel := by
  intro i s t hinit hshut hagree h
  rcases exec_output_cases h with ⟨-, hw⟩ | ⟨hi, -⟩ | ⟨-, -, -, hw⟩ | ⟨-, -, ⟨-, hidle⟩, -, hw⟩ |
    ⟨-, -, hactive, -, hw⟩
  · simp [hw]
  · exact absurd hi (not_or.2 ⟨hinit, hshut⟩)
  · intro e he
    rw [hw] at he
    have differs := (List.mem_filter.1 he).2
    exact (bne_iff_ne.1 differs).symm
  · simp [hw, PerActuator.get, hagree, hidle]
  · simp [hw, PerActuator.get, hagree, hactive]

/-- What a step does to the applied levels: it keeps them, or turns them all off (the release of an asserted reset input), or
executes the host's command word (R11, R220). -/
theorem step_levels_cases {s t : State} (h : step s = .next t) :
    t.out.lastApplied = s.out.lastApplied ∨ t.out.lastApplied = PerActuator.fill false ∨
    (∃ i inp rest, s.host = .command (encode i) inp :: rest ∧ exec i (s.accept inp rest) = .next t) := by
  rcases (step_cases h).2 with ⟨-, rfl⟩ | ⟨rest, -, rfl⟩ | ⟨level, now, rest, -, rfl⟩ | ⟨cmd, inp, rest, -, -, rfl⟩ |
    ⟨cmd, inp, rest, e, -, -, -, rfl⟩ | ⟨cmd, inp, rest, i, hh, -, hd, he⟩
  · exact .inl rfl
  · exact .inl rfl
  · rcases (s.pass rest).driveReset_cases level now with ⟨-, -, e⟩ | ⟨-, e⟩ <;> rw [e]
    · exact .inr (.inl rfl)
    · exact .inl rfl
  · exact .inl rfl
  · exact .inl rfl
  · exact .inr (.inr ⟨i, inp, rest, decode_ok hd ▸ hh, he⟩)

/-- A write that raises a level is of that actuator, and of level 1. -/
theorem perActuator_rise_of_set {v : PerActuator Bool} {a b : Actuator} {x : Bool} (hbefore : v.get b = false)
    (hafter : (v.set a x).get b = true) : b = a ∧ x = true := by
  rw [perActuator_get_set] at hafter
  split at hafter
  case isTrue heq => exact ⟨heq, hafter⟩
  case isFalse => exact nomatch hbefore.symm.trans hafter

/-- An actuator that a command raises is raised in Normal mode with `systemReady`, by `OUTPUT_TICK` to its target or by the
pulse `TOOLBOX_EVAL` starts (R172, R175, R179). -/
theorem exec_rise_cases {i : Instr} {s t : State} {a : Actuator} (h : exec i s = .next t)
    (hbefore : s.out.lastApplied.get a = false) (hafter : t.out.lastApplied.get a = true) :
    s.shutdown = false ∧
    ((i = .outputTick ∧ s.tickLevels.get a = true) ∨ (i = .toolboxEval ∧ a = .toolbox ∧ s.toolboxGo = true)) := by
  rcases exec_output_cases h with ⟨hl, -⟩ | ⟨-, hl⟩ | ⟨hi, hs, hl, -⟩ | ⟨hi, hs, ⟨hgo, -⟩, hl, -⟩ | ⟨-, -, -, hl, -⟩ <;>
    rw [hl] at hafter
  · simp [hbefore] at hafter
  · simp at hafter
  · exact ⟨hs, .inl ⟨hi, hafter⟩⟩
  · exact ⟨hs, .inr ⟨hi, (perActuator_rise_of_set hbefore hafter).1, hgo⟩⟩
  · exact nomatch (perActuator_rise_of_set hbefore hafter).2

/-- Settles O50: only an executed command raises a level, and it is one of `exec_rise_cases`, whose word the encoder computes. -/
theorem actuatorRisesOnlyWhenReady : Obligations.ActuatorRisesOnlyWhenReady := by
  intro s t a h hbefore hafter
  rw [State.actLevel] at hbefore hafter
  rcases step_levels_cases h with hl | hl | ⟨i, inp, rest, hh, he⟩
  · simp [hl, hbefore] at hafter
  · simp [hl] at hafter
  · obtain ⟨hs, ⟨rfl, htarget⟩ | ⟨rfl, rfl, hgo⟩⟩ := exec_rise_cases (s := s.accept inp rest) he hbefore hafter
    · cases a with
      | toolbox => exact nomatch htarget.symm.trans hbefore
      | lamp | parkedInd | unlockedInd =>
        obtain ⟨hready, hflag⟩ := Bool.and_eq_true_iff.1 htarget
        exact ⟨hs, hready, _, inp, rest, hh, rfl, hflag⟩
    · obtain ⟨hpressed, hready, hparked, hunlocked⟩ := (toolboxGo_iff (s.accept inp rest)).1 hgo
      exact ⟨hs, hready, _, inp, rest, hh, rfl, hpressed, hparked, hunlocked⟩

end Sys2Proof.Machine

/-! ## Proofs: illegal commands, idle and `INIT` (spec 45_control.md R190 to R192, 30_encoding.md R75)

Each entry of the host has one equation for its step, beside `step_command` for a legal word; each claim is that equation with
the shared operation written as a record. -/

namespace Sys2Proof.Machine

/-! ### Illegal words -/

/-- A reserved opcode stands for no command (R75). -/
theorem instrOfOp_of_reserved :
    ∀ op ∈ ([0x00, 0x15, 0x16, 0x17, 0x1D, 0x1E, 0x1F] : List (BitVec 5)), instrOfOp op.toNat = none := by
  decide

/-- Each of R75's two causes makes the decoder reject the word. -/
theorem decode_of_illegal {cmd : Byte}
    (h : rsvField cmd ≠ 0 ∨ opField cmd ∈ ([0x00, 0x15, 0x16, 0x17, 0x1D, 0x1E, 0x1F] : List (BitVec 5))) :
    ∃ e, decode cmd = .error e := by
  by_cases hrsv : rsvField cmd = 0
  · have hop : instrOfOp (opField cmd).toNat = none := instrOfOp_of_reserved _ (h.resolve_left (not_not.2 hrsv))
    exact ⟨.reservedOp, by simp [decode, hrsv, hop]⟩
  · exact ⟨.reservedBits, if_pos hrsv⟩

/-- A word the decoder rejects raises `IllegalCommand` on the state with its operands sampled (R191). -/
theorem step_illegalCommand {s : State} {cmd : Byte} {inp : InPorts} {rest : List Event} {e : DecodeError}
    (hl : s.cfg.legal = true) (hr : s.resetHeld = false) (hh : s.host = .command cmd inp :: rest)
    (hd : decode cmd = .error e) : step s = .next (s.accept inp rest).illegalCommand := by
  simp [step, hl, State.serve, hh, hr, execWord, hd]

/-- Settles O4: the decoder rejects the word for either cause, and the step is then `IllegalCommand`. -/
theorem illegalWordRaisesIllegalCommand : Obligations.IllegalWordRaisesIllegalCommand := by
  intro s cmd inp rest hl hr hh hillegal
  obtain ⟨e, hd⟩ := decode_of_illegal hillegal
  rw [step_illegalCommand hl hr hh hd, State.illegalCommand_eq]
  rfl

/-! ### Idle -/

/-- An idle entry is consumed, and that is all (R192). -/
theorem step_idle {s : State} {rest : List Event} (hl : s.cfg.legal = true) (hh : s.host = .idle :: rest) :
    step s = .next (s.pass rest) := by
  simp [step, hl, State.serve, hh]

/-- With nothing presented the step only clears the outputs of the last one (log 3). -/
theorem step_empty {s : State} (hl : s.cfg.legal = true) (hh : s.host = []) : step s = .next s.quiet := by
  simp [step, hl, State.serve, hh]

/-- Settles O8: the entry is passed over, which keeps the applied levels and leaves no write to pulse `act_wr`. -/
theorem idleHoldsEveryRegister : Obligations.IdleHoldsEveryRegister := by
  intro s rest hl hh
  refine ⟨step_idle hl hh, fun t ht a => ?_⟩
  rw [step_idle hl hh] at ht
  cases ht
  exact ⟨rfl, rfl⟩

/-- Settles O9: `step_empty`, with the quiet state as a record. -/
theorem emptyHostIsIdle : Obligations.EmptyHostIsIdle :=
  fun _ hl hh => step_empty hl hh

/-! ### `INIT` -/

/-- `INIT` makes the off-writes before it resets the registers, so its write list is kept (R190). -/
theorem exec_init (s : State) : exec .init s = .next (s.begin.emitAllOff.resetRegs s.now) := rfl

/-- Settles O12: the off-writes on an empty list, then the reset values of R47 with `t0` = `now`. -/
theorem initRestoresResetState : Obligations.InitRestoresResetState := by
  intro s
  rw [exec_init, State.emitAllOff_eq]
  rfl

end Sys2Proof.Machine

/-! ## Proofs: exceptions (spec 60_exceptions.md R200, R205)

Every error is a value in the response of a next state: each command, each word and each entry of the host completes, and the
check of the configuration is all that stands between a step and that completion. -/

namespace Sys2Proof.Machine

/-- Settles O6: a legal configuration passes the check, and serving the host's entry then completes, whatever it is. -/
theorem legalBlockNeverStops : Obligations.LegalBlockNeverStops := by
  intro s hl
  obtain ⟨t, ht, -⟩ := step_completes hl
  exact ⟨t, ht⟩

end Sys2Proof.Machine

/-! ## Proofs: the reset input (spec 70_reset_and_hazards.md R220, 10_state.md R47)

An entry of the reset input drives the line and nothing else; what driving does is a release, which loads the reset values, or
a change of the level alone. While the line is asserted a command entry is passed over like an idle one (log 5). -/

namespace Sys2Proof.Machine

/-! ### Driving the line -/

/-- The release of an asserted line loads the reset values, with `t0` the time on the port (R47). -/
theorem State.driveReset_release {s : State} (hr : s.resetHeld = true) (now : Time) :
    s.driveReset false now = ({ s with resetHeld := false }.quiet).resetRegs (now % 2 ^ s.cfg.W) := by
  rcases s.driveReset_cases false now with ⟨-, -, e⟩ | ⟨hn, -⟩
  · exact e
  · exact absurd ⟨hr, rfl⟩ hn

/-- Anything but the release of an asserted line moves the level alone (log 5). -/
theorem State.driveReset_of_not_release {s : State} {level : Bool} (hn : ¬ (s.resetHeld = true ∧ level = false))
    (now : Time) : s.driveReset level now = { s with resetHeld := level }.quiet := by
  rcases s.driveReset_cases level now with ⟨hr, hlevel, -⟩ | ⟨-, e⟩
  · exact absurd ⟨hr, hlevel⟩ hn
  · exact e

/-! ### The step's equations -/

/-- An entry of the reset input is consumed and drives the line. -/
theorem step_resetInput {s : State} {level : Bool} {now : Time} {rest : List Event} (hl : s.cfg.legal = true)
    (hh : s.host = .resetInput level now :: rest) : step s = .next ((s.pass rest).driveReset level now) := by
  simp [step, hl, State.serve, hh]

/-- A command entry while the line is asserted is consumed and not accepted, whatever its word (R220). -/
theorem step_command_of_resetHeld {s : State} {cmd : Byte} {inp : InPorts} {rest : List Event}
    (hl : s.cfg.legal = true) (hr : s.resetHeld = true) (hh : s.host = .command cmd inp :: rest) :
    step s = .next (s.pass rest) := by
  simp [step, hl, State.serve, hh, hr]

/-- Settles O10: a release of the asserted line loads R47's values, the two other entries of the line move its level alone
(which a release without an assertion finds at its value), and a command meanwhile is passed over. -/
theorem hardwareResetLoadsResetValues : Obligations.HardwareResetLoadsResetValues := by
  intro s now cmd inp rest hl
  refine ⟨fun hr hh => ?release, fun hh => ?assertion, fun hr hh => ?releaseUnasserted, fun hr hh => ?command⟩
  case release =>
    rw [step_resetInput hl hh, State.driveReset_release (s := s.pass rest) hr]
    rfl
  case assertion =>
    rw [step_resetInput hl hh, State.driveReset_of_not_release (by simp)]
    rfl
  case releaseUnasserted =>
    have hn : ¬ ((s.pass rest).resetHeld = true ∧ false = false) := fun h => nomatch hr.symm.trans h.1
    rw [step_resetInput hl hh, State.driveReset_of_not_release hn, ← hr]
    rfl
  case command => exact step_command_of_resetHeld hl hr hh

end Sys2Proof.Machine
